-- ==== Sys2Proof/Word.lean ====
section
/-! DEFINITION. The value types of the block (00_scope.md R8, R13): the widths of the data model, as bit vectors.
A field of a signed type is held by its two's-complement bits, and read as a number with `BitVec.toInt`. -/

namespace Sys2Proof

/-- `u8`: a byte of the wire, a register byte or a count (R8, R11). -/
abbrev Byte := BitVec 8

/-- `u16`: the transfer buffer (R8, R36). -/
abbrev U16 := BitVec 16

/-- `i16`: a threshold in native fixed-point format (R8, R77), read with `BitVec.toInt`. -/
abbrev I16 := BitVec 16

/-- `i32`: a temperature in milli-degrees Celsius (R8, R10), read with `BitVec.toInt`. -/
abbrev I32 := BitVec 32

end Sys2Proof
end

