-- ==== Sys2Proof/Config.lean ====
section
/-! DEFINITION. What an implementation fixes and the spec leaves open (00_scope.md R9): the parameters of the model, as
plain data, and the one free value. The state carries a `Config` that no step changes (10_state.md R43), so one
definition of the step speaks about every value of the parameters. -/

namespace Sys2Proof

/-- The eight command byte parameters `CMD_*` (R9, 30_encoding.md R73). -/
structure CommandBytes where
  accessTh        : Byte
  accessTl        : Byte
  accessConfig    : Byte
  readCounter     : Byte
  readSlope       : Byte
  readTemperature : Byte
  startConvert    : Byte
  stopConvert     : Byte
deriving DecidableEq, Repr

/-- The default values of R73. PRESUMED (the spec marks them as general knowledge, GK2); log 1; unsafe for a claim that
uses them, which is why claims quantify over `CommandBytes`. -/
def CommandBytes.default : CommandBytes where
  accessTh        := 0xA1
  accessTl        := 0xA2
  accessConfig    := 0xAC
  readCounter     := 0xA8
  readSlope       := 0xA9
  readTemperature := 0xAA
  startConvert    := 0xEE
  stopConvert     := 0x22

/-- The eight values in the order of R73. -/
def CommandBytes.toList (c : CommandBytes) : List Byte :=
  [c.accessTh, c.accessTl, c.accessConfig, c.readCounter, c.readSlope, c.readTemperature, c.startConvert,
    c.stopConvert]

/-- R80: the eight parameters are pairwise distinct. A configuration without this is refused (log 12). -/
abbrev CommandBytes.Distinct (c : CommandBytes) : Prop := c.toList.Nodup

/-- The `ATOMICITY` parameter (70_reset_and_hazards.md R224): `event` is R225, `split` is R226. -/
inductive Atomicity where
  | event
  | split
deriving DecidableEq, Repr

/-- The parameters of R9. -/
structure Config where
  commands      : CommandBytes
  /-- `P_RESET_MEASURED` (R42, D3). -/
  resetMeasured : I32
  /-- `P_RESET_COUNTER` (R42, D4). -/
  resetCounter  : Byte
  /-- `P_RESET_SLOPE` (R42, D4). -/
  resetSlope    : Byte
  atomicity     : Atomicity
deriving DecidableEq, Repr

/-- The parameter values `State.reset` is built with: those of 95_test_vectors.md (the defaults of R73, 0 for the three
open reset values, `EVENT`). DESIGN CHOICE, log 2 and log 3, unsafe for a claim about runs from `State.reset` alone. -/
def Config.default : Config where
  commands      := CommandBytes.default
  resetMeasured := 0
  resetCounter  := 0
  resetSlope    := 0
  atomicity     := .event

/-- `draw_u8()` (R12): the byte the environment answers with at the `n`-th draw. A FREE VALUE: it has no body, so nothing
can be proved of it that does not hold of every byte (R167, D7, U3). DESIGN CHOICE for its form, log 4, safe. -/
opaque Config.drawByte : Nat → Byte

end Sys2Proof
end

