-- ==== Sys2Proof/Syntax.lean ====
section
/-! DEFINITION. The syntax: the operations of the block's interfaces (00_scope.md R4), which are what the outside
delivers, and `Instr`, one constructor per row of opcode_table.json. -/

namespace Sys2Proof

/-- The agents that drive the interfaces (R5), and the lifecycle interface (R4). -/
inductive Agent where
  /-- `T`: the transport agent. -/
  | transport
  /-- `A`: the ambient agent. -/
  | ambient
  /-- `H`: the diagnostic reader. -/
  | diagnostic
  /-- The lifecycle interface, which attaches and detaches the block. -/
  | lifecycle
deriving DecidableEq, Repr

/-- The six operations of the transport event port (R4, 43_transfer.md). -/
inductive TransportOp where
  | writeStreamStart
  | byteWritten (b : Byte)
  | readStreamStart
  | byteRequested
  | byteConsumed
  | streamStop
deriving DecidableEq, Repr

/-- The three operations of the diagnostic output port (R4, 44_host.md R181-R183). -/
inductive DiagnosticOp where
  | outputPinLevel
  | rawConfig
  | thresholds
deriving DecidableEq, Repr

/-- The two lifecycle operations (R4, 70_reset_and_hazards.md R220, R221). They are no rows of the opcode table. -/
inductive LifecycleOp where
  | attach
  | detach
deriving DecidableEq, Repr

/-- An operation of one of the three interfaces that the opcode table's rows cover; `ambient v` is
`set_ambient_milli(v)` (R180). -/
inductive Operation where
  | transport (o : TransportOp)
  | ambient (v : I32)
  | diagnostic (o : DiagnosticOp)
deriving DecidableEq, Repr

/-- The agent that drives the interface an operation belongs to (R4, R5, 60_exceptions.md R208). -/
def Operation.agent : Operation → Agent
  | .transport _  => .transport
  | .ambient _    => .ambient
  | .diagnostic _ => .diagnostic

/-- The instructions: one constructor per row of opcode_table.json, in the table's order. The first nine are the `CMD`
format, `wdata` and `rdata` the other two byte formats (30_encoding.md R71), then the transport events and the host
calls. The byte of `rdata` is a result (R76), so it has no operand. -/
inductive Instr where
  /-- `ACCTH`, Access TH (R121). -/
  | accth
  /-- `ACCTL`, Access TL (R122). -/
  | acctl
  /-- `ACCCFG`, Access Config (R123). -/
  | acccfg
  /-- `RDCNT`, Read Counter (R124). -/
  | rdcnt
  /-- `RDSLP`, Read Slope (R125). -/
  | rdslp
  /-- `RDTEMP`, Read Temperature (R126). -/
  | rdtemp
  /-- `START`, Start Convert (R127). -/
  | start
  /-- `STOP`, Stop Convert (R128). -/
  | stop
  /-- `UNKNOWN`, a command byte equal to none of the eight parameters (R129). -/
  | unknown (b : Byte)
  /-- `WDATA`, a byte written while pending > 0 (R162). -/
  | wdata (d : Byte)
  /-- `RDATA`, a byte read while pending > 0 (R166). -/
  | rdata
  /-- `WS`, `on_write_stream_start()` (R160). -/
  | ws
  /-- `WB`, `on_byte_written(b)` (R161). -/
  | wb (b : Byte)
  /-- `RS`, `on_read_stream_start()` (R165). -/
  | rs
  /-- `RQ`, `on_byte_requested()` (R166). -/
  | rq
  /-- `RC`, `on_byte_consumed()` (R168). -/
  | rc
  /-- `RPE`, a read event with pending = 0 (R167). -/
  | rpe
  /-- `SP`, `on_stream_stop()` (R169). -/
  | sp
  /-- `AMB`, `set_ambient_milli(v)` (R180). -/
  | amb (v : I32)
  /-- `PIN?`, `get_output_pin_level()` (R181). -/
  | pinq
  /-- `CFG?`, `get_raw_config()` (R182). -/
  | cfgq
  /-- `THR?`, `get_thresholds()` (R183). -/
  | thrq
deriving DecidableEq, Repr

/-- The agent whose interface an instruction arrives on (R4, R5). -/
def Instr.agent : Instr → Agent
  | .accth     => .transport
  | .acctl     => .transport
  | .acccfg    => .transport
  | .rdcnt     => .transport
  | .rdslp     => .transport
  | .rdtemp    => .transport
  | .start     => .transport
  | .stop      => .transport
  | .unknown _ => .transport
  | .wdata _   => .transport
  | .rdata     => .transport
  | .ws        => .transport
  | .wb _      => .transport
  | .rs        => .transport
  | .rq        => .transport
  | .rc        => .transport
  | .rpe       => .transport
  | .sp        => .transport
  | .amb _     => .ambient
  | .pinq      => .diagnostic
  | .cfgq      => .diagnostic
  | .thrq      => .diagnostic

/-- The instructions whose row is an event or a host call (formats EVENT and HOST), as the transport, `A` or `H` issues
it. The others are the byte formats of R71 and `RPE`, which an event turns out to be once pending is known. -/
def Instr.isEvent : Instr → Bool
  | .accth     => false
  | .acctl     => false
  | .acccfg    => false
  | .rdcnt     => false
  | .rdslp     => false
  | .rdtemp    => false
  | .start     => false
  | .stop      => false
  | .unknown _ => false
  | .wdata _   => false
  | .rdata     => false
  | .ws        => true
  | .wb _      => true
  | .rs        => true
  | .rq        => true
  | .rc        => true
  | .rpe       => false
  | .sp        => true
  | .amb _     => true
  | .pinq      => true
  | .cfgq      => true
  | .thrq      => true

end Sys2Proof
end

