-- ==== Sys2Proof/Machine/State.lean ====
section
/-! DEFINITION. The state of the machine as plain data: the block's own record `DeviceState` (10_state.md R20), what the
agents hold between sub-steps under `SPLIT` (70_reset_and_hazards.md R226), the parameters (R9), and the model's own
fields for what the outside has delivered and received (log 5, 7). The block has no memory (20_memory.md R50). -/

namespace Sys2Proof.Machine

/-- `write_target` (R37): "a small closed tagged enumeration". -/
inductive WriteTarget where
  | th
  | tl
  | config
  | none
deriving DecidableEq, Repr

/-- The block's state record `S` (R20): "nothing else persists between events". -/
structure DeviceState where
  /-- `stored_temperature : i32` (R21). -/
  storedTemperature      : I32
  /-- `measured_temperature : i32` (R22). -/
  measuredTemperature    : I32
  /-- `threshold_high : i16`, TH (R23). -/
  thresholdHigh          : I16
  /-- `threshold_low : i16`, TL (R24). -/
  thresholdLow           : I16
  /-- `config : u8`, CONFIG (R25-R30); its bits are read in Flags.lean. -/
  config                 : Byte
  /-- `output_pin_active : bool` (R31). -/
  outputPinActive        : Bool
  /-- `read_counter : u8` (R32). -/
  readCounter            : Byte
  /-- `read_slope : u8` (R33). -/
  readSlope              : Byte
  /-- `converting_continuously : bool` (R34). -/
  convertingContinuously : Bool
  /-- `pending_byte_count : u8`, holding 0, 1 or 2 (R35). -/
  pendingByteCount       : Byte
  /-- `transfer_buffer : u16` (R36). -/
  transferBuffer         : U16
  /-- `write_target` (R37). -/
  writeTarget            : WriteTarget
deriving DecidableEq, Repr

/-- How far `T` is inside a divided operation, with the local value it holds (R226; log 8). -/
inductive TransportLocal where
  /-- Between operations. -/
  | idle
  /-- After SC.1, holding `s`. -/
  | startSampled (s : I32)
  /-- After SC.2. -/
  | startReevaluated
  /-- After TW.1, holding `c`. -/
  | thresholdStored (c : Bool)
  /-- After TW.2, holding `m` when `c` was true. -/
  | thresholdSampled (m : Option I32)
deriving DecidableEq, Repr

/-- How far `A` is inside a divided `set_ambient_milli(v)` (R226; log 8). -/
inductive AmbientLocal where
  /-- Between operations. -/
  | idle
  /-- After AM.1, holding `v`. -/
  | stored (v : I32)
  /-- After AM.2, holding `v` and `c`. -/
  | tested (v : I32) (c : Bool)
deriving DecidableEq, Repr

/-- A value returned to `H` (R181-R183). -/
inductive DiagnosticAnswer where
  /-- `get_output_pin_level() -> bool`. -/
  | pinLevel (level : Bool)
  /-- `get_raw_config() -> u8`. -/
  | rawConfig (config : Byte)
  /-- `get_thresholds() -> (i16, i16)`, TH then TL. -/
  | thresholds (high low : I16)
deriving DecidableEq, Repr

/-- Why the machine stops with a fault. There is no reason: "No operation of the block raises an exception, traps, faults,
halts or signals an error" (60_exceptions.md R200), so the type has no constructor and `fault` cannot be answered. -/
inductive Fault where
deriving DecidableEq, Repr

/-- Why the machine refuses. -/
inductive Refusal where
  /-- An instruction without a meaning yet. Raised by no arm of `exec`: every row is modelled. Safe. -/
  | notModelled (mnemonic : String)
  /-- Two of the eight command byte parameters are equal: "such a configuration is refused (no step is taken)"
  (30_encoding.md R80, D26). Raised by `step` before anything runs. Safe: the model stops. Log 12. -/
  | ambiguousCommandBytes
  /-- An agent has an operation for a block that is not attached: no instance exists (70_reset_and_hazards.md R221), so
  the spec gives the operation no meaning. Raised by `step`. Safe: the model stops. Log 11. -/
  | notAttached
deriving DecidableEq, Repr

/-- The machine: the block, its agents' unfinished operations, its parameters, and its ports. -/
structure State where
  /-- The parameters; changed by no step (R43). -/
  params    : Config
  /-- The block's state record (R20). -/
  dev       : DeviceState
  /-- Whether an instance exists (R220, R221); the model's own field, log 11. -/
  attached  : Bool
  /-- What `T` holds inside a divided operation (R226). -/
  tLocal    : TransportLocal
  /-- What `A` holds inside a divided operation (R226). -/
  aLocal    : AmbientLocal
  /-- The events `T` will deliver, in its own order (R5, R60); the model's own field, log 5. -/
  tQueue    : List TransportOp
  /-- The values `A` will set (R5, R180); the model's own field, log 5. -/
  aQueue    : List I32
  /-- The reads `H` will issue (R5); the model's own field, log 5. -/
  hQueue    : List DiagnosticOp
  /-- The lifecycle operations to come (R4); the model's own field, log 5. -/
  lQueue    : List LifecycleOp
  /-- Which agent moves next, then after that (R60, R207); the model's own field, log 5. -/
  schedule  : List Agent
  /-- The bytes returned to `T` so far (`emit`, R12), oldest first; the model's own field, log 7. -/
  emitted   : List Byte
  /-- The values returned to `H` so far, oldest first; the model's own field, log 7. -/
  answers   : List DiagnosticAnswer
  /-- How many times `draw_u8()` has been asked (R12, R167); the model's own field, log 4. -/
  drawCount : Nat
deriving DecidableEq, Repr

/-- R42, R220: every field of the block at the value it takes on attach, under the parameters `p`. -/
def DeviceState.atAttach (p : Config) : DeviceState where
  storedTemperature      := 21000#32
  measuredTemperature    := p.resetMeasured
  thresholdHigh          := 0#16
  thresholdLow           := 0#16
  config                 := 0#8
  outputPinActive        := false
  readCounter            := p.resetCounter
  readSlope              := p.resetSlope
  convertingContinuously := false
  pendingByteCount       := 0#8
  transferBuffer         := 0#16
  writeTarget            := .none

/-- The machine right after attach with parameters `p`: no operation delivered yet, nothing returned yet (R220, R222). -/
def State.attachedWith (p : Config) : State where
  params    := p
  dev       := DeviceState.atAttach p
  attached  := true
  tLocal    := .idle
  aLocal    := .idle
  tQueue    := []
  aQueue    := []
  hQueue    := []
  lQueue    := []
  schedule  := []
  emitted   := []
  answers   := []
  drawCount := 0

/-- The machine right after reset, with the parameter values of `Config.default` (R220; log 1, 2, 3). -/
def State.reset : State := State.attachedWith Config.default

end Sys2Proof.Machine
end

