-- ==== Sys2Proof/WellFormed.lean ====
section
/-! DEFINITION. Well-formed instructions: the one operand the spec restricts is the byte of `UNKNOWN`, which is "equal to
none of the eight parameters" (41_commands.md R129), and the condition each row of the opcode table gives for pending. -/

namespace Sys2Proof

/-- R129: the byte of an unknown command is none of the eight command bytes. Every other operand may have any value
(30_encoding.md R78: "every `WDATA` byte value is accepted"; 44_host.md R180: any `i32`). -/
def Instr.wf (c : CommandBytes) : Instr → Bool
  | .accth     => true
  | .acctl     => true
  | .acccfg    => true
  | .rdcnt     => true
  | .rdslp     => true
  | .rdtemp    => true
  | .start     => true
  | .stop      => true
  | .unknown b => !c.toList.contains b
  | .wdata _   => true
  | .rdata     => true
  | .ws        => true
  | .wb _      => true
  | .rs        => true
  | .rq        => true
  | .rc        => true
  | .rpe       => true
  | .sp        => true
  | .amb _     => true
  | .pinq      => true
  | .cfgq      => true
  | .thrq      => true

/-- The table's "condition" column: the values of pending under which the row applies (30_encoding.md R71, R79; R167). -/
def Instr.fitsPending (pending : Byte) : Instr → Bool
  | .accth     => pending = 0#8
  | .acctl     => pending = 0#8
  | .acccfg    => pending = 0#8
  | .rdcnt     => pending = 0#8
  | .rdslp     => pending = 0#8
  | .rdtemp    => pending = 0#8
  | .start     => pending = 0#8
  | .stop      => pending = 0#8
  | .unknown _ => pending = 0#8
  | .wdata _   => pending ≠ 0#8
  | .rdata     => pending ≠ 0#8
  | .ws        => true
  | .wb _      => true
  | .rs        => true
  | .rq        => true
  | .rc        => true
  | .rpe       => pending = 0#8
  | .sp        => true
  | .amb _     => true
  | .pinq      => true
  | .cfgq      => true
  | .thrq      => true

end Sys2Proof
end

