-- ==== Sys2Proof/Decode.lean ====
section
/-! DEFINITION. Decoding of bytes and operations (30_encoding.md R71-R74, R78, R79; 41_commands.md R120), and the encoder
after it. Every byte decodes (R78), so the only words the decoder refuses are those that are no byte. -/

namespace Sys2Proof

/-- R120: a command byte, by its value; equal to none of the eight parameters it is an unknown command (R78, R129). -/
def decodeCommand (c : CommandBytes) (b : Byte) : Instr :=
  if b = c.accessTh then .accth
  else if b = c.accessTl then .acctl
  else if b = c.accessConfig then .acccfg
  else if b = c.readCounter then .rdcnt
  else if b = c.readSlope then .rdslp
  else if b = c.readTemperature then .rdtemp
  else if b = c.startConvert then .start
  else if b = c.stopConvert then .stop
  else .unknown b

/-- R79: whether a written byte is a command or data is decided by pending alone. -/
def decodeWritten (c : CommandBytes) (pending b : Byte) : Instr :=
  if pending = 0#8 then decodeCommand c b else .wdata b

/-- R71: a byte read while pending > 0 is `RDATA`; a read with pending = 0 has no format and is `RPE` (R167). -/
def decodeRead (pending : Byte) : Instr :=
  if pending = 0#8 then .rpe else .rdata

/-- The instruction an operation is when pending is `pending`: for the byte events the format of R71. -/
def decodeOperation (c : CommandBytes) (pending : Byte) : Operation → Instr
  | .transport .writeStreamStart  => .ws
  | .transport (.byteWritten b)   => decodeWritten c pending b
  | .transport .readStreamStart   => .rs
  | .transport .byteRequested     => decodeRead pending
  | .transport .byteConsumed      => decodeRead pending
  | .transport .streamStop        => .sp
  | .ambient v                    => .amb v
  | .diagnostic .outputPinLevel   => .pinq
  | .diagnostic .rawConfig        => .cfgq
  | .diagnostic .thresholds       => .thrq

/-- The event or host row that an operation is by its name alone, whatever pending is (R81). -/
def eventOfOperation : Operation → Instr
  | .transport .writeStreamStart  => .ws
  | .transport (.byteWritten b)   => .wb b
  | .transport .readStreamStart   => .rs
  | .transport .byteRequested     => .rq
  | .transport .byteConsumed      => .rc
  | .transport .streamStop        => .sp
  | .ambient v                    => .amb v
  | .diagnostic .outputPinLevel   => .pinq
  | .diagnostic .rawConfig        => .cfgq
  | .diagnostic .thresholds       => .thrq

/-- Why a sequence of bytes has no instruction at its front. -/
inductive DecodeError where
  /-- There is no byte left: a command is exactly one byte (R72). -/
  | noByteLeft
deriving DecidableEq, Repr

/-- Decode the byte at the front of what is written, and answer the rest: one byte an instruction, no prefixes and no
length field (R72). -/
def decodeBytes (c : CommandBytes) (pending : Byte) : List Byte → Except DecodeError (Instr × List Byte)
  | []        => .error .noByteLeft
  | b :: rest => .ok (decodeWritten c pending b, rest)

/-- The bytes of an instruction word of `nbits` bits, first byte least significant: the block's words are one byte
(R70, R72), so any other width and any value outside the width is no word. -/
def wordBytes (nbits w : Nat) : Option (List Byte) :=
  if nbits = 8 ∧ w < 256 then some [BitVec.ofNat 8 w] else none

/-- The instruction the decoder reads from a word of the opcode table, with the default command bytes and as the first
byte of a transfer (pending = 0, where a byte has the format `CMD`, R71). -/
def decodeTableWord (nbits w : Nat) : Option Instr :=
  match wordBytes nbits w with
  | none    => none
  | some bs =>
    match decodeBytes CommandBytes.default 0#8 bs with
    | .ok (i, _) => some i
    | .error _   => none

/-- The byte on the wire of a written format (R71, R73): the command's byte, the unknown byte, or the data byte. A row
that writes no byte has none. -/
def encodeByte (c : CommandBytes) : Instr → Option Byte
  | .accth     => some c.accessTh
  | .acctl     => some c.accessTl
  | .acccfg    => some c.accessConfig
  | .rdcnt     => some c.readCounter
  | .rdslp     => some c.readSlope
  | .rdtemp    => some c.readTemperature
  | .start     => some c.startConvert
  | .stop      => some c.stopConvert
  | .unknown b => some b
  | .wdata d   => some d
  | .rdata     => none
  | .ws        => none
  | .wb b      => some b
  | .rs        => none
  | .rq        => none
  | .rc        => none
  | .rpe       => none
  | .sp        => none
  | .amb _     => none
  | .pinq      => none
  | .cfgq      => none
  | .thrq      => none

/-- The operation by which an instruction reaches the block (R71, R81). The two read operations are interchangeable
(R82); `RDATA` and `RPE` are written as a byte request. -/
def encode (c : CommandBytes) : Instr → Operation
  | .accth     => .transport (.byteWritten c.accessTh)
  | .acctl     => .transport (.byteWritten c.accessTl)
  | .acccfg    => .transport (.byteWritten c.accessConfig)
  | .rdcnt     => .transport (.byteWritten c.readCounter)
  | .rdslp     => .transport (.byteWritten c.readSlope)
  | .rdtemp    => .transport (.byteWritten c.readTemperature)
  | .start     => .transport (.byteWritten c.startConvert)
  | .stop      => .transport (.byteWritten c.stopConvert)
  | .unknown b => .transport (.byteWritten b)
  | .wdata d   => .transport (.byteWritten d)
  | .rdata     => .transport .byteRequested
  | .ws        => .transport .writeStreamStart
  | .wb b      => .transport (.byteWritten b)
  | .rs        => .transport .readStreamStart
  | .rq        => .transport .byteRequested
  | .rc        => .transport .byteConsumed
  | .rpe       => .transport .byteRequested
  | .sp        => .transport .streamStop
  | .amb v     => .ambient v
  | .pinq      => .diagnostic .outputPinLevel
  | .cfgq      => .diagnostic .rawConfig
  | .thrq      => .diagnostic .thresholds

end Sys2Proof
end

