-- ==== Sys2Proof/Machine/Operands.lean ====
section
/-! DEFINITION. The pseudocode primitives of 00_scope.md R12, on mathematical integers (R10), and the operand forms of
30_encoding.md: how a written byte enters the transfer buffer (R75), how a read byte leaves it (R76), and the 16-bit
images of 8-bit registers (20_memory.md R53). -/

namespace Sys2Proof.Machine

/-- `trunc_N(v)`: `v mod 2^N`, in `[0, 2^N)` (R12). -/
def trunc (n : Nat) (v : Int) : Nat := (v % (2 ^ n : Int)).toNat

/-- `as_sN(u)`: the `N`-bit two's-complement reading of `u` (R12). -/
def asSigned (n : Nat) (u : Nat) : Int := if u < 2 ^ (n - 1) then (u : Int) else (u : Int) - 2 ^ n

/-- `sext_N(v) = as_sN(trunc_N(v))` (R12). -/
def sext (n : Nat) (v : Int) : Int := asSigned n (trunc n v)

/-- `asr(v, k) = floor(v / 2^k)` (R12); Lean's `/` on `Int` is the floor for a positive divisor. -/
def asr (v : Int) (k : Nat) : Int := v / (2 ^ k : Int)

/-- `v << k = v * 2^k`, with no truncation (R12). -/
def shl (v : Int) (k : Nat) : Int := v * (2 ^ k : Int)

/-- `tdiv(a, b)`: integer division truncating toward zero (R12). -/
def tdiv (a b : Int) : Int := Int.tdiv a b

/-- Storing a mathematical integer into an 8-bit field (R10). -/
def storeByte (v : Int) : Byte := BitVec.ofNat 8 (trunc 8 v)

/-- Storing a mathematical integer into a 16-bit field (R10). -/
def storeWord (v : Int) : BitVec 16 := BitVec.ofNat 16 (trunc 16 v)

/-- R75: a data byte enters the low end of the buffer, keeping 16 bits. -/
def shiftIn (buffer : U16) (b : Byte) : U16 := (buffer <<< 8) ||| b.setWidth 16

/-- R76: the byte emitted with `pending` bytes still expected: `trunc_8(buffer >> (8 * (pending - 1)))`. -/
def byteOut (buffer : U16) (pending : Byte) : Byte := (buffer >>> (8 * (pending.toNat - 1))).setWidth 8

/-- The buffer image of an 8-bit register: high byte `0x00` (R123-R125). -/
def byteImage (b : Byte) : U16 := b.setWidth 16

/-- `v[7:0]` of the buffer, what a CONFIG commit stores (R163). -/
def lowByte (buffer : U16) : Byte := buffer.setWidth 8

/-- `v[15:8]` of a word (R11, R52). -/
def highByte (w : BitVec 16) : Byte := (w >>> 8).setWidth 8

/-- `hi : lo`, the word of two bytes, most significant first (R11, R52). -/
def wordOfBytes (hi lo : Byte) : BitVec 16 := (hi.setWidth 16 <<< 8) ||| lo.setWidth 16

end Sys2Proof.Machine
end

