-- ==== Sys2Proof/Machine/Codec.lean ====
section
/-! DEFINITION. The temperature codec (40_codec.md): pure functions on mathematical integers, narrowed only where a rule
narrows (R10, R108, D9). -/

namespace Sys2Proof.Machine

/-- R100: `decode_native_to_milli`. The result is a milli value; it fits `i32`. -/
def decodeNativeToMilli (native : I16) : Int := sext 9 (asr native.toInt 7) * 500

/-- R101: the count of 0.5 °C steps nearest to `milli`, ties away from zero. -/
def roundHalfSteps (milli : Int) : Int := milli.sign * tdiv ((milli.natAbs : Int) + 250) 500

/-- R102: `encode_milli_to_rounded_native`, with the wrap of R103. -/
def encodeMilliToRoundedNative (milli : I32) : I16 := storeWord (shl (roundHalfSteps milli.toInt) 7)

/-- R103: a milli value whose step count fits the 9-bit field. -/
def Representable (milli : Int) : Prop := -256 ≤ roundHalfSteps milli ∧ roundHalfSteps milli ≤ 255

/-- R104: the native high byte as a signed 8-bit integer. -/
def integerPart (native : I16) : Int := asSigned 8 (highByte native).toNat

/-- R106: "`slope` is fixed at 255". -/
def slopeConstant : Byte := 255#8

/-- R105: `fractional_delta`, from the milli value and the rounded native word. -/
def fractionalDelta (milli : I32) : Int :=
  milli.toInt - integerPart (encodeMilliToRoundedNative milli) * 1000

/-- The triple R105 returns. -/
structure ExtendedResolution where
  roundedNative : I16
  counter       : Byte
  slope         : Byte
deriving DecidableEq, Repr

/-- R105: `extended_resolution_registers`. -/
def extendedResolutionRegisters (milli : I32) : ExtendedResolution where
  roundedNative := encodeMilliToRoundedNative milli
  counter       := storeByte (tdiv ((750 - fractionalDelta milli) * (slopeConstant.toNat : Int)) 1000)
  slope         := slopeConstant

end Sys2Proof.Machine
end

