-- ==== Sys2Proof/Machine/Flags.lean ====
section
/-! DEFINITION. The bits of CONFIG (10_state.md R25-R30), the three tests of the re-evaluation unit that write the flags
and the pin latch (42_reeval.md R140), and the output-pin level (R143). -/

namespace Sys2Proof.Machine

/-- `CONFIG.THF`, bit 6 (R26). -/
def highFlag (config : Byte) : Bool := config.getLsbD 6

/-- `CONFIG.TLF`, bit 5 (R27). -/
def lowFlag (config : Byte) : Bool := config.getLsbD 5

/-- `CONFIG.POL`, bit 1 (R28). -/
def polarity (config : Byte) : Bool := config.getLsbD 1

/-- `CONFIG.1SHOT`, bit 0 (R29). -/
def oneShot (config : Byte) : Bool := config.getLsbD 0

/-- `config | 0x40`: set THF (R140). -/
def setHighFlag (config : Byte) : Byte := config ||| 0x40#8

/-- `config | 0x20`: set TLF (R140). -/
def setLowFlag (config : Byte) : Byte := config ||| 0x20#8

/-- `config | 0x08`: the read image of Access Config, bit 3 forced to 1 (R123). -/
def accessConfigImage (config : Byte) : U16 := byteImage (config ||| 0x08#8)

/-- The high bound as the re-evaluation reads it: TH decoded (R140). -/
def DeviceState.highBound (d : DeviceState) : Int := decodeNativeToMilli d.thresholdHigh

/-- The low bound as the re-evaluation reads it: TL decoded (R140). -/
def DeviceState.lowBound (d : DeviceState) : Int := decodeNativeToMilli d.thresholdLow

/-- R140, first test: at or above the high bound, set THF and the pin latch. -/
def testHigh (m : I32) (d : DeviceState) : DeviceState :=
  if d.highBound ≤ m.toInt then { d with config := setHighFlag d.config, outputPinActive := true } else d

/-- R140, second test: at or below the low bound, set TLF. -/
def testLow (m : I32) (d : DeviceState) : DeviceState :=
  if m.toInt ≤ d.lowBound then { d with config := setLowFlag d.config } else d

/-- R140, third test: strictly below the low bound, clear the pin latch. -/
def testBelowLow (m : I32) (d : DeviceState) : DeviceState :=
  if m.toInt < d.lowBound then { d with outputPinActive := false } else d

/-- R143: the externally visible pin level, a function of the latch and POL (C1 settles the polarity). -/
def pinLevel (d : DeviceState) : Bool := d.outputPinActive == polarity d.config

end Sys2Proof.Machine
end

