-- ==== Sys2Proof/Machine/Ops.lean ====
section
/-! DEFINITION. The named operations over the block's registers that several instructions share: the re-evaluation unit
(42_reeval.md R140), selecting a register (41_commands.md), the data path and commit (43_transfer.md R162-R164), and the
read path (R166, R167). The block has no exceptions, so there is no taking of one and no return (60_exceptions.md R200,
R206). -/

namespace Sys2Proof.Machine

/-- R140, R141: the atomic re-evaluation unit. The new measured value is stored, then the three tests run in the order
written, each on the state the previous one left. -/
def reEval (m : I32) (d : DeviceState) : DeviceState :=
  testBelowLow m (testLow m (testHigh m { d with measuredTemperature := m }))

/-- What the six register commands do to the transfer scratch: expect `count` bytes, load the register image, and take
the write target (R121-R126). -/
def DeviceState.select (count : Byte) (image : U16) (target : WriteTarget) (d : DeviceState) : DeviceState :=
  { d with pendingByteCount := count, transferBuffer := image, writeTarget := target }

/-- R129, R160: expect a command next and forget the write target; the buffer is kept (D6). -/
def DeviceState.abandonTransfer (d : DeviceState) : DeviceState :=
  { d with pendingByteCount := 0#8, writeTarget := .none }

/-- The last line of R127 (SC.3 of R226): with 1SHOT clear, convert continuously. -/
def DeviceState.enterContinuous (d : DeviceState) : DeviceState :=
  if oneShot d.config then d else { d with convertingContinuously := true }

/-- R126: counter and slope are written, and the rounded native image of the measured value is selected for reading. -/
def DeviceState.readTemperature (d : DeviceState) : DeviceState :=
  let x := extendedResolutionRegisters d.measuredTemperature
  { d with readCounter := x.counter, readSlope := x.slope }.select 2#8 x.roundedNative .none

/-- R162 before its commit: the byte enters the buffer and pending counts down. -/
def DeviceState.takeByte (b : Byte) (d : DeviceState) : DeviceState :=
  { d with transferBuffer := shiftIn d.transferBuffer b, pendingByteCount := d.pendingByteCount - 1#8 }

/-- R163 without its re-evaluation: the buffer is stored into the register the target names, as one store, and the target
becomes NONE (D10, D11). -/
def DeviceState.commit (d : DeviceState) : DeviceState :=
  match d.writeTarget with
  | .th     => { d with thresholdHigh := d.transferBuffer, writeTarget := .none }
  | .tl     => { d with thresholdLow := d.transferBuffer, writeTarget := .none }
  | .config => { d with config := lowByte d.transferBuffer, writeTarget := .none }
  | .none   => d

/-- R162 with the store of R163: TW.1 of R226 but for its sample. -/
def DeviceState.writeByte (b : Byte) (d : DeviceState) : DeviceState :=
  if d.pendingByteCount - 1#8 = 0#8 then (d.takeByte b).commit else d.takeByte b

/-- The tag is TH or TL (R163). -/
def WriteTarget.isThreshold : WriteTarget → Bool
  | .th     => true
  | .tl     => true
  | .config => false
  | .none   => false

/-- The next data byte completes a TH or TL write (R163, R226). -/
def DeviceState.completesThreshold (d : DeviceState) : Bool :=
  d.pendingByteCount - 1#8 = 0#8 && d.writeTarget.isThreshold

/-- R164 as one step: under continuous conversion, re-evaluate against the unchanged measured value. -/
def DeviceState.thresholdReEval (d : DeviceState) : DeviceState :=
  if d.convertingContinuously then reEval d.measuredTemperature d else d

/-- R162-R164, `DataByte(b)`: one step under `EVENT`; under `SPLIT` a byte that completes a threshold write does TW.1 and
leaves TW.2 and TW.3 to follow (R226). -/
def State.dataByte (b : Byte) (s : State) : State :=
  let d := s.dev.writeByte b
  if s.dev.completesThreshold then
    match s.params.atomicity with
    | .event => { s with dev := d.thresholdReEval }
    | .split => { s with dev := d, tLocal := .thresholdStored d.convertingContinuously }
  else { s with dev := d }

/-- R166 after its emission: pending counts down, and the target becomes NONE at 0 (D10). -/
def DeviceState.afterRead (d : DeviceState) : DeviceState :=
  if d.pendingByteCount - 1#8 = 0#8 then { d with pendingByteCount := 0#8, writeTarget := .none }
  else { d with pendingByteCount := d.pendingByteCount - 1#8 }

/-- R167: any byte, and no change to the block (log 4). -/
def State.readPastEnd (s : State) : State :=
  { s with emitted := s.emitted ++ [Config.drawByte s.drawCount], drawCount := s.drawCount + 1 }

/-- R166: with bytes pending, emit the next byte of the buffer and count down; otherwise read past the end. -/
def State.readByte (s : State) : State :=
  if s.dev.pendingByteCount = 0#8 then s.readPastEnd
  else { s with dev := s.dev.afterRead,
                emitted := s.emitted ++ [byteOut s.dev.transferBuffer s.dev.pendingByteCount] }

/-- R127: one step under `EVENT`; under `SPLIT` this is SC.1, and SC.2 and SC.3 follow (R226). -/
def State.startConvert (s : State) : State :=
  match s.params.atomicity with
  | .event => { s with dev := (reEval s.dev.storedTemperature s.dev).enterContinuous }
  | .split => { s with tLocal := .startSampled s.dev.storedTemperature }

/-- R180: one step under `EVENT`; under `SPLIT` this is AM.1, and AM.2 and AM.3 follow (R226). -/
def State.setAmbient (v : I32) (s : State) : State :=
  let d := { s.dev with storedTemperature := v }
  match s.params.atomicity with
  | .event => { s with dev := if d.convertingContinuously then reEval v d else d }
  | .split => { s with dev := d, aLocal := .stored v }

end Sys2Proof.Machine
end

