-- ==== Sys2Proof/Machine/Agents.lean ====
section
/-! DEFINITION. What the agents do besides starting an instruction: the later sub-steps of a divided operation
(70_reset_and_hazards.md R226) and the lifecycle operations (R220, R221). -/

namespace Sys2Proof.Machine

/-- The next sub-step of `T`'s divided operation: SC.2, SC.3, TW.2 or TW.3 (R226). -/
def State.resumeTransport (s : State) : State :=
  match s.tLocal with
  | .idle                     => s
  | .startSampled m           => { s with dev := reEval m s.dev, tLocal := .startReevaluated }
  | .startReevaluated         => { s with dev := s.dev.enterContinuous, tLocal := .idle }
  | .thresholdStored c        =>
    { s with tLocal := .thresholdSampled (if c then some s.dev.measuredTemperature else none) }
  | .thresholdSampled none    => { s with tLocal := .idle }
  | .thresholdSampled (some m) => { s with dev := reEval m s.dev, tLocal := .idle }

/-- The next sub-step of `A`'s divided operation: AM.2 or AM.3 (R226). -/
def State.resumeAmbient (s : State) : State :=
  match s.aLocal with
  | .idle       => s
  | .stored v   => { s with aLocal := .tested v s.dev.convertingContinuously }
  | .tested v c => { s with dev := if c then reEval v s.dev else s.dev, aLocal := .idle }

/-- Attach (R220): every field of the block takes its reset value and nothing else happens. The spec speaks of attach
only where there is no instance; that an attach of an attached block starts it again is the model's DESIGN CHOICE
(log 11). -/
def State.attach (s : State) : State :=
  { s with dev := DeviceState.atAttach s.params, attached := true, tLocal := .idle, aLocal := .idle }

/-- Detach (R221): the block's state is discarded and no value survives. The model's DESIGN CHOICEs (log 11): the
unfinished operations of both agents end with it; the record left behind is the attach record, read by nothing until the
next attach writes it; and a detach while no instance exists, of which the spec says nothing, completes like any other
and leaves the block detached. -/
def State.detach (s : State) : State :=
  { s with dev := DeviceState.atAttach s.params, attached := false, tLocal := .idle, aLocal := .idle }

/-- A lifecycle operation (R4). Neither is ever refused, whether or not an instance exists (DESIGN CHOICE, log 11). -/
def State.lifecycle (o : LifecycleOp) (s : State) : State :=
  match o with
  | .attach => s.attach
  | .detach => s.detach

end Sys2Proof.Machine
end

