-- ==== Sys2Proof/Machine/Commands.lean ====
section
/-! DEFINITION. The meanings of the nine command rows and the dispatch of a command byte (41_commands.md R120-R129). -/

namespace Sys2Proof.Machine

/-- The outcome type of every meaning. -/
abbrev StepOutcome := Host.Outcome State Fault Refusal

/-- `ACCTH` (R121). -/
def execAccth (s : State) : StepOutcome :=
  .next { s with dev := s.dev.select 2#8 s.dev.thresholdHigh .th }

/-- `ACCTL` (R122). -/
def execAcctl (s : State) : StepOutcome :=
  .next { s with dev := s.dev.select 2#8 s.dev.thresholdLow .tl }

/-- `ACCCFG` (R123): bit 3 is forced in the buffer only. -/
def execAcccfg (s : State) : StepOutcome :=
  .next { s with dev := s.dev.select 1#8 (accessConfigImage s.dev.config) .config }

/-- `RDCNT` (R124). -/
def execRdcnt (s : State) : StepOutcome :=
  .next { s with dev := s.dev.select 1#8 (byteImage s.dev.readCounter) .none }

/-- `RDSLP` (R125). -/
def execRdslp (s : State) : StepOutcome :=
  .next { s with dev := s.dev.select 1#8 (byteImage s.dev.readSlope) .none }

/-- `RDTEMP` (R126). -/
def execRdtemp (s : State) : StepOutcome :=
  .next { s with dev := s.dev.readTemperature }

/-- `START` (R127; SC.1 under `SPLIT`, R226). -/
def execStart (s : State) : StepOutcome :=
  .next s.startConvert

/-- `STOP` (R128). -/
def execStop (s : State) : StepOutcome :=
  .next { s with dev := { s.dev with convertingContinuously := false } }

/-- `UNKNOWN` (R129): "absorbed, resets transfer state, no signal to caller". The byte has no further effect. -/
def execUnknown (_b : Byte) (s : State) : StepOutcome :=
  .next { s with dev := s.dev.abandonTransfer }

/-- R120, `Dispatch(b)`: the command byte is compared with the eight parameters; equal to none, it is unknown. -/
def dispatchByte (b : Byte) (s : State) : StepOutcome :=
  let c := s.params.commands
  if b = c.accessTh then execAccth s
  else if b = c.accessTl then execAcctl s
  else if b = c.accessConfig then execAcccfg s
  else if b = c.readCounter then execRdcnt s
  else if b = c.readSlope then execRdslp s
  else if b = c.readTemperature then execRdtemp s
  else if b = c.startConvert then execStart s
  else if b = c.stopConvert then execStop s
  else execUnknown b s

end Sys2Proof.Machine
end

