-- ==== Sys2Proof/Machine/HostPort.lean ====
section
/-! DEFINITION. The meanings of the ambient input and the diagnostic accessors (44_host.md R180-R184). -/

namespace Sys2Proof.Machine

/-- `AMB v` (R180; AM.1 under `SPLIT`, R226). -/
def execAmb (v : I32) (s : State) : StepOutcome :=
  .next (s.setAmbient v)

/-- `PIN?` (R181): both fields are read in one step (D29). -/
def execPinq (s : State) : StepOutcome :=
  .next { s with answers := s.answers ++ [.pinLevel (pinLevel s.dev)] }

/-- `CFG?` (R182): raw, bit 3 not forced. -/
def execCfgq (s : State) : StepOutcome :=
  .next { s with answers := s.answers ++ [.rawConfig s.dev.config] }

/-- `THR?` (R183): TH then TL, as stored. -/
def execThrq (s : State) : StepOutcome :=
  .next { s with answers := s.answers ++ [.thresholds s.dev.thresholdHigh s.dev.thresholdLow] }

end Sys2Proof.Machine
end

