-- ==== Sys2Proof/Machine/Transfer.lean ====
section
/-! DEFINITION. The meanings of the data rows and the transport events (43_transfer.md R160-R169). -/

namespace Sys2Proof.Machine

/-- `WDATA` (R162). With pending = 0 the byte would be a command, whatever its value (R79, R161); log 9. -/
def execWdata (d : Byte) (s : State) : StepOutcome :=
  if s.dev.pendingByteCount = 0#8 then dispatchByte d s else .next (s.dataByte d)

/-- `RDATA` (R166, both branches). -/
def execRdata (s : State) : StepOutcome :=
  .next s.readByte

/-- `WS` (R160): an incomplete transfer is abandoned; the buffer is kept. -/
def execWs (s : State) : StepOutcome :=
  .next { s with dev := s.dev.abandonTransfer }

/-- `WB b` (R161): a command when pending = 0, else data. -/
def execWb (b : Byte) (s : State) : StepOutcome :=
  if s.dev.pendingByteCount = 0#8 then dispatchByte b s else .next (s.dataByte b)

/-- `RS` (R165): no state change. -/
def execRs (s : State) : StepOutcome :=
  .next s

/-- `RQ` (R166, both branches). -/
def execRq (s : State) : StepOutcome :=
  .next s.readByte

/-- `RC` (R168): "exactly the effect of `on_byte_requested()`". -/
def execRc (s : State) : StepOutcome :=
  .next s.readByte

/-- `RPE` (R167): any byte, no state change. -/
def execRpe (s : State) : StepOutcome :=
  .next s.readPastEnd

/-- `SP` (R169): no state change; a stop does not abandon a transfer (C7). -/
def execSp (s : State) : StepOutcome :=
  .next s

end Sys2Proof.Machine
end

