-- ==== Sys2Proof/Machine/Dispatch.lean ====
section
/-! DEFINITION. One arm per row of opcode_table.json. -/

namespace Sys2Proof.Machine

def exec (i : Instr) (s : State) : Host.Outcome State Fault Refusal :=
  match i with
  | .accth => Sys2Proof.Machine.execAccth s
  | .acctl => Sys2Proof.Machine.execAcctl s
  | .acccfg => Sys2Proof.Machine.execAcccfg s
  | .rdcnt => Sys2Proof.Machine.execRdcnt s
  | .rdslp => Sys2Proof.Machine.execRdslp s
  | .rdtemp => Sys2Proof.Machine.execRdtemp s
  | .start => Sys2Proof.Machine.execStart s
  | .stop => Sys2Proof.Machine.execStop s
  | .unknown b => Sys2Proof.Machine.execUnknown b s
  | .wdata d => Sys2Proof.Machine.execWdata d s
  | .rdata => Sys2Proof.Machine.execRdata s
  | .ws => Sys2Proof.Machine.execWs s
  | .wb b => Sys2Proof.Machine.execWb b s
  | .rs => Sys2Proof.Machine.execRs s
  | .rq => Sys2Proof.Machine.execRq s
  | .rc => Sys2Proof.Machine.execRc s
  | .rpe => Sys2Proof.Machine.execRpe s
  | .sp => Sys2Proof.Machine.execSp s
  | .amb v => Sys2Proof.Machine.execAmb v s
  | .pinq => Sys2Proof.Machine.execPinq s
  | .cfgq => Sys2Proof.Machine.execCfgq s
  | .thrq => Sys2Proof.Machine.execThrq s

end Sys2Proof.Machine
end

