-- ==== Sys2Proof/Machine/Fetch.lean ====
section
/-! DEFINITION. Which agent moves next and with what (00_scope.md R5, 20_memory.md R60, 60_exceptions.md R207). The block
fetches nothing (10_state.md R39); what stands in the place of a fetch is the operation at the head of the scheduled
agent's queue, decoded by pending (30_encoding.md R79). An agent with an unfinished divided operation goes on with it and
issues nothing else (R5, R226). Log 5. -/

namespace Sys2Proof.Machine

/-- What the next step is. -/
inductive Activity where
  /-- No agent is scheduled, or the scheduled agent has nothing to do. -/
  | wait
  /-- `T` goes on with its divided operation (R226). -/
  | resumeTransport
  /-- `A` goes on with its divided operation (R226). -/
  | resumeAmbient
  /-- The scheduled agent issues the operation at the head of its queue. -/
  | issue (o : Operation)
  /-- A lifecycle operation (R4). -/
  | lifecycle (o : LifecycleOp)
deriving DecidableEq, Repr

/-- What `T` does when it moves. -/
def State.transportActivity (s : State) : Activity :=
  if s.tLocal = .idle then
    match s.tQueue with
    | []     => .wait
    | o :: _ => .issue (.transport o)
  else .resumeTransport

/-- What `A` does when it moves. -/
def State.ambientActivity (s : State) : Activity :=
  if s.aLocal = .idle then
    match s.aQueue with
    | []     => .wait
    | v :: _ => .issue (.ambient v)
  else .resumeAmbient

/-- What `H` does when it moves; every operation of `H` is one step (R226). -/
def State.diagnosticActivity (s : State) : Activity :=
  match s.hQueue with
  | []     => .wait
  | o :: _ => .issue (.diagnostic o)

/-- What the lifecycle interface does when it moves. -/
def State.lifecycleActivity (s : State) : Activity :=
  match s.lQueue with
  | []     => .wait
  | o :: _ => .lifecycle o

/-- What the next step is: the move of the agent at the head of the schedule. -/
def State.activity (s : State) : Activity :=
  match s.schedule with
  | []               => .wait
  | .transport :: _  => s.transportActivity
  | .ambient :: _    => s.ambientActivity
  | .diagnostic :: _ => s.diagnosticActivity
  | .lifecycle :: _  => s.lifecycleActivity

/-- The scheduled agent's turn is used up. -/
def State.endTurn (s : State) : State :=
  { s with schedule := s.schedule.tail }

/-- The operation an agent issues leaves its queue. -/
def State.dequeue (o : Operation) (s : State) : State :=
  match o with
  | .transport _  => { s with tQueue := s.tQueue.tail }
  | .ambient _    => { s with aQueue := s.aQueue.tail }
  | .diagnostic _ => { s with hQueue := s.hQueue.tail }

/-- A lifecycle operation leaves its queue. -/
def State.dequeueLifecycle (s : State) : State :=
  { s with lQueue := s.lQueue.tail }

/-- The instruction an operation is in this state (30_encoding.md R71, R79). -/
def State.decode (o : Operation) (s : State) : Instr :=
  decodeOperation s.params.commands s.dev.pendingByteCount o

/-- The state in which the very next step is `T` writing the byte `b` as a command: the block is attached, `T` is between
operations and moves next, `b` heads its queue, and a command is expected (what a write-stream start leaves, R160). Where
that holds already, only the queue and the schedule change. Log 6. -/
def State.withCommandByte (b : Byte) (s : State) : State :=
  { s with attached := true, tLocal := .idle,
           dev := if s.dev.pendingByteCount = 0#8 then s.dev else s.dev.abandonTransfer,
           tQueue := .byteWritten b :: s.tQueue, schedule := .transport :: s.schedule }

/-- A word of the opcode table placed where the next step takes its operation from; a word that is no byte places
nothing. -/
def State.withTableWord (nbits w : Nat) (s : State) : State :=
  match wordBytes nbits w with
  | some (b :: _) => s.withCommandByte b
  | some []       => s
  | none          => s

end Sys2Proof.Machine
end

