-- ==== Sys2Proof/Machine/Step.lean ====
section
/-! DEFINITION. One atomic step of the machine (20_memory.md R60): the scheduled agent issues an instruction, goes on with
a divided operation, or has nothing to do. -/

namespace Sys2Proof.Machine

/-- One atomic step. A configuration with equal command bytes takes none (R80), and an operation on a block that is not
attached is refused (log 11). -/
def step (s : State) : Host.Outcome State Fault Refusal :=
  if s.params.commands.Distinct then
    match s.activity with
    | .wait            => .next s.endTurn
    | .lifecycle o     => .next (s.endTurn.dequeueLifecycle.lifecycle o)
    | .resumeTransport => .next s.endTurn.resumeTransport
    | .resumeAmbient   => .next s.endTurn.resumeAmbient
    | .issue o         =>
      if s.attached then exec (s.decode o) (s.endTurn.dequeue o) else .refused .notAttached
  else .refused .ambiguousCommandBytes

/-- `s` with the word placed where `step` takes its next operation from, so that the very next step runs it (log 6). -/
def State.withFetchWord (s : State) (nbits w : Nat) : State :=
  s.withTableWord nbits w

end Sys2Proof.Machine
end

