-- ==== Sys2Proof/Safety.lean ====
section
/-! DEFINITION. The vocabulary of claims: the invariants the spec gives (10_state.md R38), sequences of instructions, the
row an instruction is in a given state, and the same machine under `SPLIT`. -/

namespace Sys2Proof.Machine

/-- R38 (1)-(3) of the block's record: pending is 0, 1 or 2; pending = 0 implies target NONE; target CONFIG implies
pending at most 1. -/
structure DeviceState.WellFormed (d : DeviceState) : Prop where
  pending_le_two : d.pendingByteCount.toNat ≤ 2
  idle_target : d.pendingByteCount = 0#8 → d.writeTarget = .none
  config_pending : d.writeTarget = .config → d.pendingByteCount.toNat ≤ 1

/-- The invariant of the machine: R38 for the block, and for the values agents hold between sub-steps what R226 says of
them: under `EVENT` no operation is divided; while `T` is inside a divided operation the transfer is idle; `c` of TW.1 is
still `converting_continuously`, which only `T` writes; `v` of AM.1 is still `stored_temperature`, which only `A`
writes. -/
structure State.Inv (s : State) : Prop where
  device : s.dev.WellFormed
  event_undivided : s.params.atomicity = .event → s.tLocal = .idle ∧ s.aLocal = .idle
  divided_idle : s.tLocal ≠ .idle → s.dev.pendingByteCount = 0#8
  threshold_sample : ∀ c, s.tLocal = .thresholdStored c → c = s.dev.convertingContinuously
  measured_sample : ∀ m, s.tLocal = .thresholdSampled m → m.isSome = s.dev.convertingContinuously
  ambient_stored : ∀ v, s.aLocal = .stored v → s.dev.storedTemperature = v
  ambient_tested : ∀ v c, s.aLocal = .tested v c → s.dev.storedTemperature = v

/-- The row of the opcode table that an instruction is in state `s`: an event of the byte port is the format its pending
count makes it (30_encoding.md R71, R79); every other instruction is itself. -/
def State.row (s : State) (i : Instr) : Instr :=
  match i with
  | .accth     => .accth
  | .acctl     => .acctl
  | .acccfg    => .acccfg
  | .rdcnt     => .rdcnt
  | .rdslp     => .rdslp
  | .rdtemp    => .rdtemp
  | .start     => .start
  | .stop      => .stop
  | .unknown b => .unknown b
  | .wdata d   => decodeWritten s.params.commands s.dev.pendingByteCount d
  | .rdata     => decodeRead s.dev.pendingByteCount
  | .ws        => .ws
  | .wb b      => decodeWritten s.params.commands s.dev.pendingByteCount b
  | .rs        => .rs
  | .rq        => decodeRead s.dev.pendingByteCount
  | .rc        => decodeRead s.dev.pendingByteCount
  | .rpe       => .rpe
  | .sp        => .sp
  | .amb v     => .amb v
  | .pinq      => .pinq
  | .cfgq      => .cfgq
  | .thrq      => .thrq

/-- The six rows that select a register (20_memory.md R50). -/
def Instr.selects : List Instr := [.accth, .acctl, .acccfg, .rdcnt, .rdslp, .rdtemp]

/-- Instructions one after the other, stopping at the first that answers no next state. -/
def execAll : List Instr → State → Host.Outcome State Fault Refusal
  | [], s => .next s
  | i :: is, s =>
    match exec i s with
    | .next t    => execAll is t
    | .fault r   => .fault r
    | .refused r => .refused r

/-- The same machine with `ATOMICITY = SPLIT` (R226). -/
def State.asSplit (s : State) : State := { s with params := { s.params with atomicity := .split } }

/-- The same machine with `ATOMICITY = EVENT` (R225). -/
def State.asEvent (s : State) : State := { s with params := { s.params with atomicity := .event } }

/-- R107: 255 times the milli value the consumer reconstructs from an image, a counter and the slope 255, as an exact
integer (the block never computes it). -/
def reconstructTimes255 (w : I16) (counter : Byte) : Int :=
  255 * (integerPart w * 1000 - 250) + (255 - (counter.toNat : Int)) * 1000

end Sys2Proof.Machine
end

