-- ==== Sys2Proof/Certificates/Slice0/Obligations.lean ====
section
/-! DEFINITION. The statements for the provers. Where a conclusion is `exec i s = .next { s with … }`, everything the
record update does not name is unchanged: that is the frame. A statement whose docstring says "spec's decision" or
"spec's inference" rests on a sentence the spec marks `[decision …]` or `[derived …]`; "model's choice" names a log entry. -/

open Sys2Proof Sys2Proof.Machine

section Commands

/-- R121: Access TH expects 2 bytes, loads TH as stored, takes TH as target, and changes nothing else. -/
def Obligations.AccessThSelectsTh : Prop :=
  ∀ s : State, exec .accth s = .next { s with dev := { s.dev with
    pendingByteCount := 2#8, transferBuffer := s.dev.thresholdHigh, writeTarget := .th } }

/-- R122: Access TL expects 2 bytes, loads TL as stored, takes TL as target, and changes nothing else. -/
def Obligations.AccessTlSelectsTl : Prop :=
  ∀ s : State, exec .acctl s = .next { s with dev := { s.dev with
    pendingByteCount := 2#8, transferBuffer := s.dev.thresholdLow, writeTarget := .tl } }

/-- R123: Access Config expects 1 byte, loads `config | 0x08` with high byte 0, takes CONFIG as target; CONFIG itself is
unchanged, and so is everything else. -/
def Obligations.AccessConfigSelectsConfig : Prop :=
  ∀ s : State, exec .acccfg s = .next { s with dev := { s.dev with
    pendingByteCount := 1#8, transferBuffer := (s.dev.config ||| 0x08#8).setWidth 16, writeTarget := .config } }

/-- R124: Read Counter expects 1 byte, loads the counter with high byte 0, takes no target, and changes nothing else. -/
def Obligations.ReadCounterSelectsCounter : Prop :=
  ∀ s : State, exec .rdcnt s = .next { s with dev := { s.dev with
    pendingByteCount := 1#8, transferBuffer := s.dev.readCounter.setWidth 16, writeTarget := .none } }

/-- R125: Read Slope expects 1 byte, loads the slope with high byte 0, takes no target, and changes nothing else. -/
def Obligations.ReadSlopeSelectsSlope : Prop :=
  ∀ s : State, exec .rdslp s = .next { s with dev := { s.dev with
    pendingByteCount := 1#8, transferBuffer := s.dev.readSlope.setWidth 16, writeTarget := .none } }

/-- R126: Read Temperature writes the counter of the measured value and slope 255, expects 2 bytes, loads the rounded
native image of the measured value, takes no target, and changes nothing else. -/
def Obligations.ReadTemperatureLoadsImage : Prop :=
  ∀ s : State, exec .rdtemp s = .next { s with dev := { s.dev with
    readCounter := (extendedResolutionRegisters s.dev.measuredTemperature).counter, readSlope := 255#8,
    pendingByteCount := 2#8, transferBuffer := encodeMilliToRoundedNative s.dev.measuredTemperature,
    writeTarget := .none } }

/-- R127 under `EVENT`: Start Convert re-evaluates with the stored temperature, then sets continuous conversion if 1SHOT
is clear and leaves it as it was if 1SHOT is set (spec's decision D24); nothing else changes. -/
def Obligations.StartConvertInOneStep : Prop :=
  ∀ s : State, s.params.atomicity = .event →
    (s.dev.config.getLsbD 0 = false → exec .start s = .next { s with
      dev := { reEval s.dev.storedTemperature s.dev with convertingContinuously := true } }) ∧
    (s.dev.config.getLsbD 0 = true → exec .start s = .next { s with
      dev := reEval s.dev.storedTemperature s.dev })

/-- R226, SC.1 to SC.3 (spec's decision D8): under `SPLIT`, Start Convert takes the stored temperature; the next sub-step
re-evaluates with the value taken; the last sets continuous conversion if 1SHOT is clear then. -/
def Obligations.StartConvertSubSteps : Prop :=
  (∀ s : State, s.params.atomicity = .split →
    exec .start s = .next { s with tLocal := .startSampled s.dev.storedTemperature }) ∧
  (∀ (s : State) (m : I32), s.tLocal = .startSampled m →
    s.resumeTransport = { s with dev := reEval m s.dev, tLocal := .startReevaluated }) ∧
  (∀ s : State, s.tLocal = .startReevaluated →
    (s.dev.config.getLsbD 0 = false →
      s.resumeTransport = { s with dev := { s.dev with convertingContinuously := true }, tLocal := .idle }) ∧
    (s.dev.config.getLsbD 0 = true → s.resumeTransport = { s with tLocal := .idle }))

/-- R128: Stop Convert ends continuous conversion and changes nothing else. -/
def Obligations.StopConvertEndsContinuous : Prop :=
  ∀ s : State, exec .stop s = .next { s with dev := { s.dev with convertingContinuously := false } }

/-- R129: an unknown command sets pending to 0 and the target to NONE and changes nothing else, the buffer included
(spec's decision D6); from pending = 0 and target NONE it changes no field at all. -/
def Obligations.UnknownCommandIsAbsorbed : Prop :=
  ∀ (s : State) (b : Byte),
    exec (.unknown b) s = .next { s with dev := { s.dev with pendingByteCount := 0#8, writeTarget := .none } } ∧
    (s.dev.pendingByteCount = 0#8 → s.dev.writeTarget = .none → exec (.unknown b) s = .next s)

/-- R120, R161: with pending = 0 and distinct parameters, each of the eight command bytes written runs its own command
and completes, and every other byte runs the unknown command. -/
def Obligations.WrittenCommandByteDispatches : Prop :=
  ∀ s : State, s.dev.pendingByteCount = 0#8 → s.params.commands.Distinct →
    (∃ t, exec (.wb s.params.commands.accessTh) s = .next t ∧ exec .accth s = .next t) ∧
    (∃ t, exec (.wb s.params.commands.accessTl) s = .next t ∧ exec .acctl s = .next t) ∧
    (∃ t, exec (.wb s.params.commands.accessConfig) s = .next t ∧ exec .acccfg s = .next t) ∧
    (∃ t, exec (.wb s.params.commands.readCounter) s = .next t ∧ exec .rdcnt s = .next t) ∧
    (∃ t, exec (.wb s.params.commands.readSlope) s = .next t ∧ exec .rdslp s = .next t) ∧
    (∃ t, exec (.wb s.params.commands.readTemperature) s = .next t ∧ exec .rdtemp s = .next t) ∧
    (∃ t, exec (.wb s.params.commands.startConvert) s = .next t ∧ exec .start s = .next t) ∧
    (∃ t, exec (.wb s.params.commands.stopConvert) s = .next t ∧ exec .stop s = .next t) ∧
    (∀ b, b ∉ s.params.commands.toList →
      ∃ t, exec (.wb b) s = .next t ∧ exec (.unknown b) s = .next t)

end Commands

section Transfers

/-- R162: a data byte that is not the last enters the low end of the buffer, pending counts down, and nothing else
changes. -/
def Obligations.DataByteIsAssembled : Prop :=
  ∀ (s : State) (b : Byte), s.dev.pendingByteCount ≠ 0#8 → s.dev.pendingByteCount ≠ 1#8 →
    exec (.wdata b) s = .next { s with dev := { s.dev with
      transferBuffer := (s.dev.transferBuffer <<< 8) ||| b.setWidth 16,
      pendingByteCount := s.dev.pendingByteCount - 1#8 } }

/-- R162, R163: the last data byte of a CONFIG write replaces all 8 bits of CONFIG, never re-evaluates, and ends the
transfer (target NONE: spec's decision D10); the last data byte after a read-only command stores nothing (spec's
decision D11). -/
def Obligations.LastDataByteWithoutThreshold : Prop :=
  ∀ (s : State) (b : Byte), s.dev.pendingByteCount = 1#8 →
    (s.dev.writeTarget = .config → exec (.wdata b) s = .next { s with dev := { s.dev with
      transferBuffer := (s.dev.transferBuffer <<< 8) ||| b.setWidth 16, pendingByteCount := 0#8,
      writeTarget := .none, config := b } }) ∧
    (s.dev.writeTarget = .none → exec (.wdata b) s = .next { s with dev := { s.dev with
      transferBuffer := (s.dev.transferBuffer <<< 8) ||| b.setWidth 16, pendingByteCount := 0#8 } })

/-- R162-R164 under `EVENT`: the last data byte of a TH or TL write stores all 16 bits of the buffer in that threshold and
ends the transfer, and under continuous conversion re-evaluates with the unchanged measured value; nothing else
changes. -/
def Obligations.LastThresholdByteInOneStep : Prop :=
  ∀ (s : State) (b : Byte) (d : DeviceState), s.params.atomicity = .event → s.dev.pendingByteCount = 1#8 →
    (s.dev.writeTarget = .th ∧ d = { s.dev with
        transferBuffer := (s.dev.transferBuffer <<< 8) ||| b.setWidth 16, pendingByteCount := 0#8,
        writeTarget := .none, thresholdHigh := (s.dev.transferBuffer <<< 8) ||| b.setWidth 16 } ∨
      s.dev.writeTarget = .tl ∧ d = { s.dev with
        transferBuffer := (s.dev.transferBuffer <<< 8) ||| b.setWidth 16, pendingByteCount := 0#8,
        writeTarget := .none, thresholdLow := (s.dev.transferBuffer <<< 8) ||| b.setWidth 16 }) →
    (s.dev.convertingContinuously = true →
      exec (.wdata b) s = .next { s with dev := reEval s.dev.measuredTemperature d }) ∧
    (s.dev.convertingContinuously = false → exec (.wdata b) s = .next { s with dev := d })

/-- R226, TW.1 to TW.3 (spec's decision D8; that the target becomes NONE: spec's decision D10, log 13): under `SPLIT` the
last data byte of a TH or TL write stores the threshold, ends the transfer and samples continuous conversion; the next sub-step takes the measured value if the sample was true; the last re-evaluates
with the value taken, if any. -/
def Obligations.ThresholdWriteSubSteps : Prop :=
  (∀ (s : State) (b : Byte), s.params.atomicity = .split → s.dev.pendingByteCount = 1#8 →
    (s.dev.writeTarget = .th → exec (.wdata b) s = .next { s with
      dev := { s.dev with
        transferBuffer := (s.dev.transferBuffer <<< 8) ||| b.setWidth 16, pendingByteCount := 0#8,
        writeTarget := .none, thresholdHigh := (s.dev.transferBuffer <<< 8) ||| b.setWidth 16 },
      tLocal := .thresholdStored s.dev.convertingContinuously }) ∧
    (s.dev.writeTarget = .tl → exec (.wdata b) s = .next { s with
      dev := { s.dev with
        transferBuffer := (s.dev.transferBuffer <<< 8) ||| b.setWidth 16, pendingByteCount := 0#8,
        writeTarget := .none, thresholdLow := (s.dev.transferBuffer <<< 8) ||| b.setWidth 16 },
      tLocal := .thresholdStored s.dev.convertingContinuously })) ∧
  (∀ s : State,
    (s.tLocal = .thresholdStored true →
      s.resumeTransport = { s with tLocal := .thresholdSampled (some s.dev.measuredTemperature) }) ∧
    (s.tLocal = .thresholdStored false → s.resumeTransport = { s with tLocal := .thresholdSampled none }) ∧
    (∀ m, s.tLocal = .thresholdSampled (some m) →
      s.resumeTransport = { s with dev := reEval m s.dev, tLocal := .idle }) ∧
    (s.tLocal = .thresholdSampled none → s.resumeTransport = { s with tLocal := .idle }))

/-- R75 (its second sentence is the spec's inference): after two data bytes the buffer is those bytes, most significant
first, whatever it held; after one, its low byte is the byte and its high byte the old low byte. -/
def Obligations.AssembledBufferIsBytesInOrder : Prop :=
  ∀ (w : U16) (b1 b2 : Byte), shiftIn (shiftIn w b1) b2 = wordOfBytes b1 b2 ∧ shiftIn w b1 = wordOfBytes (lowByte w) b1

/-- R166, R76: with bytes pending, a read through any of the three read rows emits `trunc_8(buffer >> 8*(pending - 1))`
and counts down, and at 0 the target becomes NONE (spec's decision D10); nothing else changes. -/
def Obligations.PendingReadEmitsNextByte : Prop :=
  ∀ (s : State) (i : Instr), (i = .rdata ∨ i = .rq ∨ i = .rc) →
    (s.dev.pendingByteCount = 1#8 → exec i s = .next { s with
      dev := { s.dev with pendingByteCount := 0#8, writeTarget := .none },
      emitted := s.emitted ++ [s.dev.transferBuffer.extractLsb' 0 8] }) ∧
    (s.dev.pendingByteCount = 2#8 → exec i s = .next { s with
      dev := { s.dev with pendingByteCount := 1#8 },
      emitted := s.emitted ++ [s.dev.transferBuffer.extractLsb' 8 8] })

/-- R167 (any byte, fresh each time: spec's decision D7): a read with pending = 0 emits the free byte of its draw and
changes no field of the block; the draw counter, the model's own (log 4), moves on. -/
def Obligations.ReadPastEndEmitsFreeByte : Prop :=
  ∀ (s : State) (i : Instr), s.dev.pendingByteCount = 0#8 → (i = .rpe ∨ i = .rdata ∨ i = .rq ∨ i = .rc) →
    exec i s = .next { s with
      emitted := s.emitted ++ [Config.drawByte s.drawCount], drawCount := s.drawCount + 1 }

/-- R168, R82: the two read operations have exactly one effect, in every state, and both complete. -/
def Obligations.ByteConsumedActsAsByteRequested : Prop :=
  ∀ s : State, ∃ t, exec .rc s = .next t ∧ exec .rq s = .next t

/-- R160: a write-stream start expects a command, discards the target, and changes nothing else (that it keeps the
buffer is the spec's decision D6). -/
def Obligations.WriteStreamStartAbandonsTransfer : Prop :=
  ∀ s : State, exec .ws s = .next { s with dev := { s.dev with pendingByteCount := 0#8, writeTarget := .none } }

/-- R165: a read-stream start changes nothing. -/
def Obligations.ReadStreamStartChangesNothing : Prop :=
  ∀ s : State, exec .rs s = .next s

/-- R169: a stream stop changes nothing; in particular it abandons no transfer (the spec's choice in conflict C7 of its
source, log 13). -/
def Obligations.StreamStopChangesNothing : Prop :=
  ∀ s : State, exec .sp s = .next s

/-- The source's property S6 and R231 (cited by section): under `EVENT`, writing two bytes to TH or to TL through the byte
port and reading them back by the same command returns exactly the bytes written, whatever the block held before. -/
def Obligations.ThresholdReadsBackAsWritten : Prop :=
  ∀ (s : State) (b1 b2 : Byte), s.params.atomicity = .event → s.params.commands.Distinct →
    (∃ t, execAll [.ws, .wb s.params.commands.accessTh, .wb b1, .wb b2, .sp,
        .ws, .wb s.params.commands.accessTh, .rs, .rq, .rc, .sp] s = .next t ∧
      t.emitted = s.emitted ++ [b1, b2] ∧ t.dev.thresholdHigh = wordOfBytes b1 b2 ∧
      t.dev.thresholdLow = s.dev.thresholdLow) ∧
    (∃ t, execAll [.ws, .wb s.params.commands.accessTl, .wb b1, .wb b2, .sp,
        .ws, .wb s.params.commands.accessTl, .rs, .rq, .rc, .sp] s = .next t ∧
      t.emitted = s.emitted ++ [b1, b2] ∧ t.dev.thresholdLow = wordOfBytes b1 b2 ∧
      t.dev.thresholdHigh = s.dev.thresholdHigh)

/-- R54 (the spec's inference): a write cut short by one byte and abandoned by a write-stream start stores nothing: from
any state, after the command, one data byte and the start, only the buffer, pending and the target can differ, and the
block expects a command. -/
def Obligations.ShortThresholdWriteStoresNothing : Prop :=
  ∀ (s : State) (i : Instr) (b : Byte), (i = .accth ∨ i = .acctl) →
    ∃ t, execAll [i, .wdata b, .ws] s = .next t ∧
      t = { s with dev := { s.dev with
        pendingByteCount := 0#8, writeTarget := .none, transferBuffer := t.dev.transferBuffer } }

end Transfers

section HostPort

/-- R180 under `EVENT`: an ambient update stores the value and, under continuous conversion, re-evaluates with it;
nothing else changes. Any `i32` is taken (spec's decision D28). -/
def Obligations.AmbientUpdateInOneStep : Prop :=
  ∀ (s : State) (v : I32), s.params.atomicity = .event →
    (s.dev.convertingContinuously = true → exec (.amb v) s = .next { s with
      dev := reEval v { s.dev with storedTemperature := v } }) ∧
    (s.dev.convertingContinuously = false → exec (.amb v) s = .next { s with
      dev := { s.dev with storedTemperature := v } })

/-- R226, AM.1 to AM.3 (spec's decision D8): under `SPLIT` an ambient update stores the value; the next sub-step tests
continuous conversion; the last re-evaluates with the value if the test was true. -/
def Obligations.AmbientUpdateSubSteps : Prop :=
  (∀ (s : State) (v : I32), s.params.atomicity = .split →
    exec (.amb v) s = .next { s with dev := { s.dev with storedTemperature := v }, aLocal := .stored v }) ∧
  (∀ (s : State) (v : I32), s.aLocal = .stored v →
    s.resumeAmbient = { s with aLocal := .tested v s.dev.convertingContinuously }) ∧
  (∀ (s : State) (v : I32), s.aLocal = .tested v true →
    s.resumeAmbient = { s with dev := reEval v s.dev, aLocal := .idle }) ∧
  (∀ (s : State) (v : I32), s.aLocal = .tested v false → s.resumeAmbient = { s with aLocal := .idle })

/-- R181, R143: the pin-level read answers the latch when POL = 1 and its complement when POL = 0, and changes nothing
else; both fields are read in one step (spec's decision D29). -/
def Obligations.PinLevelReadFollowsPolarity : Prop :=
  ∀ s : State, exec .pinq s = .next { s with answers := s.answers ++
    [.pinLevel (if s.dev.config.getLsbD 1 then s.dev.outputPinActive else !s.dev.outputPinActive)] }

/-- R182: the raw CONFIG read answers CONFIG as stored, no bit forced (spec's decision D21), and changes nothing else. -/
def Obligations.RawConfigReadAnswersStored : Prop :=
  ∀ s : State, exec .cfgq s = .next { s with answers := s.answers ++ [.rawConfig s.dev.config] }

/-- R183: the threshold read answers TH and TL, in that order, as stored (spec's decision D21), and changes nothing
else. -/
def Obligations.ThresholdsReadAnswersStored : Prop :=
  ∀ s : State, exec .thrq s = .next { s with answers := s.answers ++
    [.thresholds s.dev.thresholdHigh s.dev.thresholdLow] }

/-- R184 (spec's inference): a diagnostic read commutes with every instruction of `T` and `A` in its effect on the block
and on what `T` is given: done before or after, both complete and leave the same block, the same unfinished operations
and the same emitted bytes. -/
def Obligations.DiagnosticReadsCommute : Prop :=
  ∀ (s : State) (q i : Instr), (q = .pinq ∨ q = .cfgq ∨ q = .thrq) → i.agent ≠ .diagnostic →
    ∃ s1 s2 t1 t2, exec q s = .next s1 ∧ exec i s1 = .next t1 ∧ exec i s = .next s2 ∧ exec q s2 = .next t2 ∧
      s1.dev = s.dev ∧ t1.dev = t2.dev ∧ t1.tLocal = t2.tLocal ∧ t1.aLocal = t2.aLocal ∧ t1.emitted = t2.emitted

end HostPort

section ReEvaluation

/-- R140: the re-evaluation stores the value, sets THF and the pin at or above the high bound, sets TLF at or below the low
bound, clears the pin strictly below the low bound, and changes nothing else. -/
def Obligations.ReEvaluationTestsBothBounds : Prop :=
  ∀ (m : I32) (d : DeviceState), reEval m d =
    { d with
        measuredTemperature := m,
        config := d.config ||| (if decodeNativeToMilli d.thresholdHigh ≤ m.toInt then 0x40#8 else 0#8) |||
          (if m.toInt ≤ decodeNativeToMilli d.thresholdLow then 0x20#8 else 0#8),
        outputPinActive := if m.toInt < decodeNativeToMilli d.thresholdLow then false
          else if decodeNativeToMilli d.thresholdHigh ≤ m.toInt then true else d.outputPinActive }

/-- R141, the table of its consequences (spec's inference): THF, TLF and the pin in each of the six cases. -/
def Obligations.ReEvaluationCaseTable : Prop :=
  ∀ (m : I32) (d : DeviceState) (hi lo x : Int),
    hi = decodeNativeToMilli d.thresholdHigh → lo = decodeNativeToMilli d.thresholdLow → x = m.toInt →
    (hi ≤ x → lo < x → highFlag (reEval m d).config = true ∧
      lowFlag (reEval m d).config = lowFlag d.config ∧ (reEval m d).outputPinActive = true) ∧
    (hi ≤ x → x = lo → highFlag (reEval m d).config = true ∧
      lowFlag (reEval m d).config = true ∧ (reEval m d).outputPinActive = true) ∧
    (hi ≤ x → x < lo → highFlag (reEval m d).config = true ∧
      lowFlag (reEval m d).config = true ∧ (reEval m d).outputPinActive = false) ∧
    (x < hi → lo < x → highFlag (reEval m d).config = highFlag d.config ∧
      lowFlag (reEval m d).config = lowFlag d.config ∧ (reEval m d).outputPinActive = d.outputPinActive) ∧
    (x < hi → x = lo → highFlag (reEval m d).config = highFlag d.config ∧
      lowFlag (reEval m d).config = true ∧ (reEval m d).outputPinActive = d.outputPinActive) ∧
    (x < hi → x < lo → highFlag (reEval m d).config = highFlag d.config ∧
      lowFlag (reEval m d).config = true ∧ (reEval m d).outputPinActive = false)

/-- R142 (spec's decision D27): over every step of the machine, a flag that is set
goes out only in the step whose data byte completes a CONFIG write with that bit 0, or in a lifecycle step. -/
def Obligations.FlagsClearedOnlyByConfigWrite : Prop :=
  ∀ s t : State, step s = .next t →
    (highFlag s.dev.config = true → highFlag t.dev.config = false →
      (∃ o b, s.activity = .issue o ∧ s.decode o = .wdata b ∧ s.dev.pendingByteCount = 1#8 ∧
        s.dev.writeTarget = .config ∧ b.getLsbD 6 = false) ∨ ∃ o, s.activity = .lifecycle o) ∧
    (lowFlag s.dev.config = true → lowFlag t.dev.config = false →
      (∃ o b, s.activity = .issue o ∧ s.decode o = .wdata b ∧ s.dev.pendingByteCount = 1#8 ∧
        s.dev.writeTarget = .config ∧ b.getLsbD 5 = false) ∨ ∃ o, s.activity = .lifecycle o)

/-- R144 with R22 (spec's decision D8 for the sub-steps): over every step of the machine, the measured value changes only
in a Start Convert, an ambient update under continuous conversion, the re-evaluating sub-step of a divided operation, or
a lifecycle step, and takes the value that call site gives. -/
def Obligations.MeasuredChangesOnlyAtCallSites : Prop :=
  ∀ s t : State, step s = .next t → t.dev.measuredTemperature ≠ s.dev.measuredTemperature →
    (∃ o, s.activity = .issue o ∧ s.decode o = .start ∧ s.params.atomicity = .event ∧
      t.dev.measuredTemperature = s.dev.storedTemperature) ∨
    (∃ v, s.activity = .issue (.ambient v) ∧ s.params.atomicity = .event ∧
      s.dev.convertingContinuously = true ∧ t.dev.measuredTemperature = v) ∨
    (∃ m, s.activity = .resumeTransport ∧
      (s.tLocal = .startSampled m ∨ s.tLocal = .thresholdSampled (some m)) ∧ t.dev.measuredTemperature = m) ∨
    (∃ v, s.activity = .resumeAmbient ∧ s.aLocal = .tested v true ∧ t.dev.measuredTemperature = v) ∨
    (∃ o, s.activity = .lifecycle o)

/-- R145 (spec's inference, C5): under `EVENT` and continuous conversion, after any sequence of ambient updates a flag is
set exactly if it was set before or some update has reached or passed its bound; the thresholds and continuous
conversion are as before. Read for every prefix of a sweep, it says the flag comes on at the first such update and not
earlier. -/
def Obligations.AmbientSweepSetsFlagsAtTheBound : Prop :=
  ∀ (vs : List I32) (s : State), s.params.atomicity = .event → s.dev.convertingContinuously = true →
    ∃ t, execAll (vs.map .amb) s = .next t ∧
      (lowFlag t.dev.config = true ↔ lowFlag s.dev.config = true ∨
        ∃ v ∈ vs, v.toInt ≤ decodeNativeToMilli s.dev.thresholdLow) ∧
      (highFlag t.dev.config = true ↔ highFlag s.dev.config = true ∨
        ∃ v ∈ vs, decodeNativeToMilli s.dev.thresholdHigh ≤ v.toInt) ∧
      t.dev.thresholdHigh = s.dev.thresholdHigh ∧ t.dev.thresholdLow = s.dev.thresholdLow ∧
      t.dev.convertingContinuously = true

end ReEvaluation

section Codec

/-- R100 (that the sign extension changes nothing, the range and the multiples are the spec's inference): a native word
decodes to 500 times the floor of its signed value over 128, a multiple of 500 between -128000 and 127500 that does not
depend on bits 6 to 0; R104 with R77 (spec's inference): its whole-degree part is the floor of half its step count. -/
def Obligations.NativeDecodesToHalfDegrees : Prop :=
  ∀ w : I16, decodeNativeToMilli w = 500 * (w.toInt / 128) ∧
    -128000 ≤ decodeNativeToMilli w ∧ decodeNativeToMilli w ≤ 127500 ∧
    decodeNativeToMilli w = decodeNativeToMilli (w &&& 0xFF80#16) ∧
    integerPart w = (w.toInt / 128) / 2

/-- R101: the rounded step count is the nearest count of 500 milli-degree steps, exact ties going away from zero,
for every integer (exact arithmetic: spec's decision D9). -/
def Obligations.HalfStepsRoundToNearest : Prop :=
  ∀ x : Int, |2 * (roundHalfSteps x * 500 - x)| ≤ 500 ∧
    (|2 * (roundHalfSteps x * 500 - x)| = 500 → |x| < |roundHalfSteps x * 500|)

/-- R103 (spec's inference and decision D9): the step count fits 9 bits exactly for -128249 to 127749, and the encoded word
is always 128 times the step count wrapped into 9 bits, with bits 6 to 0 zero. -/
def Obligations.EncodedStepCountWrapsInNineBits : Prop :=
  (∀ x : Int, Representable x ↔ -128249 ≤ x ∧ x ≤ 127749) ∧
  (∀ m : I32, (encodeMilliToRoundedNative m).toInt = 128 * sext 9 (roundHalfSteps m.toInt) ∧
    encodeMilliToRoundedNative m &&& 0x7F#16 = 0#16) ∧
  (∀ m : I32, Representable m.toInt → (encodeMilliToRoundedNative m).toInt = 128 * roundHalfSteps m.toInt)

/-- R109, the round-trip law (spec's inference, and the source's quoted property): for every representable value,
decoding its encoding is within 250 of it, and exactly 250 away at the ties, away from zero. -/
def Obligations.EncodeThenDecodeIsWithin250 : Prop :=
  ∀ m : I32, Representable m.toInt →
    |decodeNativeToMilli (encodeMilliToRoundedNative m) - m.toInt| ≤ 250 ∧
    (|decodeNativeToMilli (encodeMilliToRoundedNative m) - m.toInt| = 250 ↔ m.toInt % 500 = 250) ∧
    (m.toInt % 500 = 250 → |m.toInt| < |decodeNativeToMilli (encodeMilliToRoundedNative m)|)

/-- R105, R106, R108 for every `i32`, representable or not (exact products, then one narrowing: spec's decision D9): the
slope is 255, and the counter is the low 8 bits of `(750 - fractional_delta) * 255 / 1000` truncated toward zero, where
`fractional_delta` takes off the whole degrees of the encoded word. R110, the extended-resolution law (spec's inference):
for a representable value the counter is not narrowed, and the consumer of R107 recovers the value from above to within
1000/255 milli-degrees. -/
def Obligations.CounterAndSlopeRecoverTemperature : Prop :=
  (∀ m : I32,
    (extendedResolutionRegisters m).roundedNative = encodeMilliToRoundedNative m ∧
    (extendedResolutionRegisters m).slope = 255#8 ∧
    (extendedResolutionRegisters m).counter = BitVec.ofInt 8
      (Int.tdiv ((750 - (m.toInt - 1000 * ((encodeMilliToRoundedNative m).toInt / 256))) * 255) 1000)) ∧
  ∀ m : I32, Representable m.toInt →
    ((extendedResolutionRegisters m).counter.toNat : Int) = (750 - fractionalDelta m) * 255 / 1000 ∧
    0 ≤ reconstructTimes255 (extendedResolutionRegisters m).roundedNative (extendedResolutionRegisters m).counter
      - 255 * m.toInt ∧
    reconstructTimes255 (extendedResolutionRegisters m).roundedNative (extendedResolutionRegisters m).counter
      - 255 * m.toInt < 1000

end Codec

section Machine

/-- R41, the access matrix (spec's inference), by row of the table, for every instruction in every state: which rows can
change which field of the block, and that none changes the parameters, the queues or the schedule. -/
def Obligations.EachFieldHasItsWriters : Prop :=
  ∀ (i : Instr) (s : State), ∃ t, exec i s = .next t ∧
    (t.dev.storedTemperature ≠ s.dev.storedTemperature → ∃ v, s.row i = .amb v) ∧
    (t.dev.measuredTemperature ≠ s.dev.measuredTemperature → s.row i = .start ∨ ∃ v, s.row i = .amb v) ∧
    (t.dev.thresholdHigh ≠ s.dev.thresholdHigh →
      (∃ b, s.row i = .wdata b) ∧ s.dev.pendingByteCount = 1#8 ∧ s.dev.writeTarget = .th) ∧
    (t.dev.thresholdLow ≠ s.dev.thresholdLow →
      (∃ b, s.row i = .wdata b) ∧ s.dev.pendingByteCount = 1#8 ∧ s.dev.writeTarget = .tl) ∧
    (t.dev.config ≠ s.dev.config → s.row i = .start ∨ (∃ b, s.row i = .wdata b) ∨ ∃ v, s.row i = .amb v) ∧
    (t.dev.outputPinActive ≠ s.dev.outputPinActive →
      s.row i = .start ∨ (∃ b, s.row i = .wdata b) ∨ ∃ v, s.row i = .amb v) ∧
    (t.dev.readCounter ≠ s.dev.readCounter → s.row i = .rdtemp) ∧
    (t.dev.readSlope ≠ s.dev.readSlope → s.row i = .rdtemp) ∧
    (t.dev.convertingContinuously ≠ s.dev.convertingContinuously → s.row i = .start ∨ s.row i = .stop) ∧
    (t.dev.transferBuffer ≠ s.dev.transferBuffer → s.row i ∈ Instr.selects ∨ ∃ b, s.row i = .wdata b) ∧
    (t.emitted ≠ s.emitted → s.row i = .rdata ∨ s.row i = .rpe) ∧
    (t.dev.pendingByteCount ≠ s.dev.pendingByteCount ∨ t.dev.writeTarget ≠ s.dev.writeTarget →
      i.agent = .transport ∧ s.row i ≠ .start ∧ s.row i ≠ .stop ∧ s.row i ≠ .rs ∧ s.row i ≠ .sp ∧
        s.row i ≠ .rpe) ∧
    t.params = s.params ∧ t.attached = s.attached ∧ t.tQueue = s.tQueue ∧ t.aQueue = s.aQueue ∧
    t.hQueue = s.hQueue ∧ t.lQueue = s.lQueue ∧ t.schedule = s.schedule

/-- R57 (spec's inference): neither an ambient update nor any sub-step of a divided operation, of either agent, touches
the transfer buffer, pending, the target, the counter or the slope, so a read in progress returns the image loaded at its
command. -/
def Obligations.ReadsInProgressAreSnapshots : Prop :=
  ∀ (s : State) (v : I32), ∃ t, exec (.amb v) s = .next t ∧
    ∀ u ∈ [t, s.resumeAmbient, s.resumeTransport],
      u.dev.transferBuffer = s.dev.transferBuffer ∧ u.dev.pendingByteCount = s.dev.pendingByteCount ∧
      u.dev.writeTarget = s.dev.writeTarget ∧ u.dev.readCounter = s.dev.readCounter ∧
      u.dev.readSlope = s.dev.readSlope ∧ u.emitted = s.emitted

/-- R200: every row of the table completes in every state, with every operand, and a read row returns one byte; the
lifecycle operations complete too; and no step answers a fault (`Fault` has no constructor: the empty cause table). -/
def Obligations.EveryInstructionCompletes : Prop :=
  (∀ (i : Instr) (s : State), ∃ t, exec i s = .next t ∧
    (i = .rdata ∨ i = .rq ∨ i = .rc ∨ i = .rpe → ∃ b, t.emitted = s.emitted ++ [b])) ∧
  (∀ (s : State) (o : LifecycleOp), s.params.commands.Distinct → s.activity = .lifecycle o →
    ∃ t, step s = .next t) ∧
  ∀ (s : State) (f : Fault), step s ≠ .fault f

/-- When the machine takes a step: exactly when the command bytes are distinct (R80, spec's decision D26) and an agent that
issues an operation finds the block attached (model's choice, log 11); it never faults. -/
def Obligations.StepStopsOnlyByRefusal : Prop :=
  ∀ s : State,
    (¬ s.params.commands.Distinct → step s = .refused .ambiguousCommandBytes) ∧
    (s.params.commands.Distinct → (∃ o, s.activity = .issue o) → s.attached = false →
      step s = .refused .notAttached) ∧
    (s.params.commands.Distinct → ((∃ o, s.activity = .issue o) → s.attached = true) →
      ∃ t, step s = .next t)

/-- The step runs the decoded instruction (R79, R161; the queues and the schedule are the model's own, log 5): when the
scheduled agent's next operation is `o`, the step is the instruction `o` decodes to, after the turn and the operation are
used up; and that instruction is well-formed and fits pending. In every other activity the step is: nothing but the turn
used up; the next sub-step of the scheduled agent (R226); or attach or detach (R220, R221), with the operation used
up, whether or not an instance exists (model's choice, log 11). -/
def Obligations.StepRunsDecodedOperation : Prop :=
  ∀ s : State, s.params.commands.Distinct →
    (∀ o, s.attached = true → s.activity = .issue o →
      step s = exec (decodeOperation s.params.commands s.dev.pendingByteCount o) (s.endTurn.dequeue o) ∧
      (decodeOperation s.params.commands s.dev.pendingByteCount o).wf s.params.commands = true ∧
      (decodeOperation s.params.commands s.dev.pendingByteCount o).fitsPending s.dev.pendingByteCount = true) ∧
    (s.activity = .wait → step s = .next { s with schedule := s.schedule.tail }) ∧
    (s.activity = .resumeTransport → step s = .next s.endTurn.resumeTransport) ∧
    (s.activity = .resumeAmbient → step s = .next s.endTurn.resumeAmbient) ∧
    (s.activity = .lifecycle .attach → step s = .next s.endTurn.dequeueLifecycle.attach) ∧
    (s.activity = .lifecycle .detach → step s = .next s.endTurn.dequeueLifecycle.detach)

/-- R71, R79, R82, R161, R166-R168 together: an operation's event row and the row it decodes to have one meaning in every
state, so the step may be read as running either. -/
def Obligations.EventRowsActAsTheirDecodedRow : Prop :=
  ∀ (s : State) (o : Operation), ∃ t, exec (eventOfOperation o) s = .next t ∧
    exec (decodeOperation s.params.commands s.dev.pendingByteCount o) s = .next t

/-- R38 (1)-(3) and what R226 says of the sampled values (spec's inference), as an invariant that every step keeps, from
every state that has it, whatever the agents do. -/
def Obligations.StepKeepsTransferInvariant : Prop :=
  ∀ s t : State, s.Inv → step s = .next t → t.Inv

/-- The invariant holds right after attach, for every value of the parameters and whatever operations and schedule are
to come. -/
def Obligations.AttachEstablishesTransferInvariant : Prop :=
  ∀ (p : Config) (tq : List TransportOp) (aq : List I32) (hq : List DiagnosticOp) (lq : List LifecycleOp)
    (sched : List Agent),
    { State.attachedWith p with
      tQueue := tq, aQueue := aq, hQueue := hq, lQueue := lq, schedule := sched }.Inv ∧ State.reset.Inv

/-- R43: no step changes the parameters: what a command byte means (R63), the reset values and the atomicity. -/
def Obligations.StepKeepsParameters : Prop :=
  ∀ s t : State, step s = .next t → t.params = s.params

/-- R42, R220, the values the source gives: the ambient is 21.000 °C, the thresholds and CONFIG are zero, and the block is
not converting, on attach with any parameters and at `State.reset`. -/
def Obligations.AttachGivesPowerOnDefaults : Prop :=
  ∀ s : State, s = State.reset ∨ (∃ p, s = State.attachedWith p) ∨ (∃ r, s = State.attach r) →
    s.dev.storedTemperature.toInt = 21000 ∧ s.dev.thresholdHigh = 0#16 ∧ s.dev.thresholdLow = 0#16 ∧
    s.dev.config = 0#8 ∧ s.dev.convertingContinuously = false

/-- R42 with R220: attach, of any state, by its step and as the initial state, gives the block the values of R42, among
them those that are the spec's decisions (D3, D4, D5, D6): the measured value, counter and slope are the parameters', the
latch is inactive and the transfer is idle. Nothing else happens at attach or at detach: no byte is emitted, no answer
given, no parameter, draw or agent's queue touched; only the turn and the lifecycle operation are used up. Model's
choices (log 11): attach of an attached block and detach of a detached one do the same as otherwise, and both end the
agents' unfinished operations. -/
def Obligations.AttachTakesParameterValues : Prop :=
  ∀ (p : Config) (s : State) (d : DeviceState), s.params = p →
    d = { storedTemperature := 21000#32, measuredTemperature := p.resetMeasured, thresholdHigh := 0#16,
          thresholdLow := 0#16, config := 0#8, outputPinActive := false, readCounter := p.resetCounter,
          readSlope := p.resetSlope, convertingContinuously := false, pendingByteCount := 0#8,
          transferBuffer := 0#16, writeTarget := .none } →
    (State.attachedWith p).dev = d ∧ (State.attachedWith p).emitted = [] ∧ (State.attachedWith p).answers = [] ∧
    s.attach = { s with dev := d, attached := true, tLocal := .idle, aLocal := .idle } ∧
    s.detach = { s with dev := s.detach.dev, attached := false, tLocal := .idle, aLocal := .idle } ∧
    (p.commands.Distinct → s.activity = .lifecycle .attach →
      step s = .next { s with
        dev := d, attached := true, tLocal := .idle, aLocal := .idle,
        schedule := s.schedule.tail, lQueue := s.lQueue.tail }) ∧
    (p.commands.Distinct → s.activity = .lifecycle .detach →
      step s = .next { s with
        dev := s.detach.dev, attached := false, tLocal := .idle, aLocal := .idle,
        schedule := s.schedule.tail, lQueue := s.lQueue.tail })

/-- R221: no value survives detach: two machines with the same parameters, detached and attached again, have the same
block, whatever they held before, and already the detached machines hold nothing of it (what they hold is the model's
choice, log 11). -/
def Obligations.NothingSurvivesDetach : Prop :=
  ∀ s s' : State, s.params = s'.params →
    s.detach.dev = s'.detach.dev ∧
    s.detach.attach.dev = s'.detach.attach.dev ∧ s.detach.attach.dev = (State.attachedWith s.params).dev ∧
    s.detach.attached = false ∧ s.detach.attach.attached = true

end Machine

section Encoding

/-- The eight command words of R73 with the default bytes, a byte of no command, and words that are no byte: what the
decoder reads (the defaults are general knowledge, log 1). -/
def Obligations.TableWordsDecode : Prop :=
  decodeTableWord 8 0xA1 = some .accth ∧ decodeTableWord 8 0xA2 = some .acctl ∧
  decodeTableWord 8 0xAC = some .acccfg ∧ decodeTableWord 8 0xA8 = some .rdcnt ∧
  decodeTableWord 8 0xA9 = some .rdslp ∧ decodeTableWord 8 0xAA = some .rdtemp ∧
  decodeTableWord 8 0xEE = some .start ∧ decodeTableWord 8 0x22 = some .stop ∧
  decodeTableWord 8 0x00 = some (.unknown 0x00) ∧ decodeTableWord 8 0x100 = none ∧ decodeTableWord 16 0xA1 = none

/-- Decode and encode agree (R71, R73, R78-R80): with distinct command bytes, every well-formed instruction that fits
pending is what its operation decodes to, by its format if it is a byte format and by its event row if it is an event. -/
def Obligations.DecodeOfEncodeIsTheInstruction : Prop :=
  ∀ (c : CommandBytes) (pending : Byte) (i : Instr), c.Distinct → i.wf c = true → i.fitsPending pending = true →
    (i.isEvent = false → decodeOperation c pending (encode c i) = i) ∧
    (i.isEvent = true → eventOfOperation (encode c i) = i)

end Encoding

section Atomicity

/-- R226 read without interleaving (spec's decision D8): for the three divided operations, doing the sub-steps one after
the other with no other agent between gives the block that the one step of `EVENT` gives, and leaves both agents between
operations. -/
def Obligations.UninterruptedSubStepsAreOneEvent : Prop :=
  ∀ s : State, s.params.atomicity = .split → s.tLocal = .idle → s.aLocal = .idle →
    (∃ t u, exec .start s = .next t ∧ exec .start s.asEvent = .next u ∧
      t.resumeTransport.resumeTransport.asEvent = u) ∧
    (∀ b, s.dev.pendingByteCount = 1#8 → s.dev.writeTarget = .th ∨ s.dev.writeTarget = .tl →
      ∃ t u, exec (.wdata b) s = .next t ∧ exec (.wdata b) s.asEvent = .next u ∧
        t.resumeTransport.resumeTransport.asEvent = u) ∧
    (∀ v, ∃ t u, exec (.amb v) s = .next t ∧ exec (.amb v) s.asEvent = .next u ∧
      t.resumeAmbient.resumeAmbient.asEvent = u)

/-- R225 (spec's decision D8): `EVENT` admits a subset of the executions `SPLIT` admits. Every run of the machine under
`EVENT` is a run of the same machine under `SPLIT` with some schedule, with the same block, the same bytes emitted and the
same answers at its end. -/
def Obligations.EventRunsAreSplitRuns : Prop :=
  ∀ (k : Nat) (s t : State), s.params.atomicity = .event → s.tLocal = .idle → s.aLocal = .idle →
    Host.Core.run Sys2Proof.core k s = .next t →
    ∃ (n : Nat) (sched : List Agent),
      Host.Core.run Sys2Proof.core n ({ s with schedule := sched } : State).asSplit = .next t.asSplit

/-- R227 (spec's inference): under `SPLIT`, with continuous conversion off and 1SHOT clear, the order SC.1, AM.1, AM.2,
AM.3, SC.2, SC.3 leaves the old ambient measured while the new one is stored, and continuous conversion on. -/
def Obligations.AmbientUpdateLostByRacingStart : Prop :=
  ∀ (s : State) (v : I32) (tq : List TransportOp) (aq : List I32) (sched : List Agent),
    s.params.commands.Distinct → s.attached = true → s.params.atomicity = .split →
    s.tLocal = .idle → s.aLocal = .idle → s.dev.pendingByteCount = 0#8 →
    s.dev.convertingContinuously = false → oneShot s.dev.config = false →
    s.tQueue = .byteWritten s.params.commands.startConvert :: tq → s.aQueue = v :: aq →
    s.schedule = .transport :: .ambient :: .ambient :: .ambient :: .transport :: .transport :: sched →
    ∃ t, Host.Core.run Sys2Proof.core 6 s = .next t ∧ t.dev.storedTemperature = v ∧
      t.dev.measuredTemperature = s.dev.storedTemperature ∧ t.dev.convertingContinuously = true ∧
      t.tLocal = .idle ∧ t.aLocal = .idle

/-- R228 (spec's inference): under `SPLIT` and continuous conversion, the order TW.1, TW.2, AM.1, AM.2, AM.3, TW.3 writes the
stale measured value back over the newer one; the flags and the pin are those of both re-evaluations in that order. -/
def Obligations.ThresholdWriteRestoresStaleMeasured : Prop :=
  ∀ (s : State) (b : Byte) (v : I32) (tq : List TransportOp) (aq : List I32) (sched : List Agent),
    s.params.commands.Distinct → s.attached = true → s.params.atomicity = .split →
    s.tLocal = .idle → s.aLocal = .idle → s.dev.pendingByteCount = 1#8 → s.dev.writeTarget = .th →
    s.dev.convertingContinuously = true → s.tQueue = .byteWritten b :: tq → s.aQueue = v :: aq →
    s.schedule = .transport :: .transport :: .ambient :: .ambient :: .ambient :: .transport :: sched →
    ∃ t, Host.Core.run Sys2Proof.core 6 s = .next t ∧ t.tLocal = .idle ∧ t.aLocal = .idle ∧
      t.dev.storedTemperature = v ∧ t.dev.measuredTemperature = s.dev.measuredTemperature ∧
      t.dev = reEval s.dev.measuredTemperature (reEval v { s.dev with
        storedTemperature := v, pendingByteCount := 0#8, writeTarget := .none,
        transferBuffer := (s.dev.transferBuffer <<< 8) ||| b.setWidth 16,
        thresholdHigh := (s.dev.transferBuffer <<< 8) ||| b.setWidth 16 })

/-- R227, its last sentence but one (spec's inference): under `EVENT`, a Start Convert with 1SHOT clear and an ambient
update, in either order, leave the new ambient both stored and measured. -/
def Obligations.EventNeverLosesAmbientUpdate : Prop :=
  ∀ (s : State) (v : I32) (is : List Instr), s.params.atomicity = .event → oneShot s.dev.config = false →
    (is = [.start, .amb v] ∨ is = [.amb v, .start]) →
    ∃ t, execAll is s = .next t ∧ t.dev.storedTemperature = v ∧ t.dev.measuredTemperature = v ∧
      t.dev.convertingContinuously = true

end Atomicity

section Scheduling

/-- R5, R60 (the queues and the schedule are the model's own, log 5): what the next step is. The agent at the head of the
schedule moves: with a divided operation unfinished it goes on with that and issues nothing else, else it issues the head
of its own queue, which leaves that queue and no other as the turn leaves the schedule, and with an empty queue, as with
an empty schedule, nothing is done. -/
def Obligations.ScheduledAgentMovesNext : Prop :=
  ∀ (s : State) (rest : List Agent),
    (s.schedule = [] → s.activity = .wait) ∧
    (s.schedule = .transport :: rest →
      (s.tLocal ≠ .idle → s.activity = .resumeTransport) ∧
      (s.tLocal = .idle → s.tQueue = [] → s.activity = .wait) ∧
      (∀ o q, s.tLocal = .idle → s.tQueue = o :: q → s.activity = .issue (.transport o) ∧
        s.endTurn.dequeue (.transport o) = { s with schedule := rest, tQueue := q })) ∧
    (s.schedule = .ambient :: rest →
      (s.aLocal ≠ .idle → s.activity = .resumeAmbient) ∧
      (s.aLocal = .idle → s.aQueue = [] → s.activity = .wait) ∧
      (∀ v q, s.aLocal = .idle → s.aQueue = v :: q → s.activity = .issue (.ambient v) ∧
        s.endTurn.dequeue (.ambient v) = { s with schedule := rest, aQueue := q })) ∧
    (s.schedule = .diagnostic :: rest →
      (s.hQueue = [] → s.activity = .wait) ∧
      (∀ o q, s.hQueue = o :: q → s.activity = .issue (.diagnostic o) ∧
        s.endTurn.dequeue (.diagnostic o) = { s with schedule := rest, hQueue := q })) ∧
    (s.schedule = .lifecycle :: rest →
      (s.lQueue = [] → s.activity = .wait) ∧
      (∀ o q, s.lQueue = o :: q → s.activity = .lifecycle o ∧
        s.endTurn.dequeueLifecycle = { s with schedule := rest, lQueue := q }))

end Scheduling
end

