-- ==== Sys2Proof/Laws/Decode.lean ====
section
/-! SUPPORT. What the decoder can answer, said once. -/

namespace Sys2Proof

/-- A command byte decodes to one of the eight commands, whose byte it is, or to the unknown command, and then it is none
of the eight bytes. -/
theorem decodeCommand_cases (c : CommandBytes) (b : Byte) :
    (decodeCommand c b = .accth ∧ b = c.accessTh) ∨ (decodeCommand c b = .acctl ∧ b = c.accessTl) ∨
      (decodeCommand c b = .acccfg ∧ b = c.accessConfig) ∨ (decodeCommand c b = .rdcnt ∧ b = c.readCounter) ∨
      (decodeCommand c b = .rdslp ∧ b = c.readSlope) ∨ (decodeCommand c b = .rdtemp ∧ b = c.readTemperature) ∨
      (decodeCommand c b = .start ∧ b = c.startConvert) ∨ (decodeCommand c b = .stop ∧ b = c.stopConvert) ∨
      (decodeCommand c b = .unknown b ∧ b ∉ c.toList) := by
  unfold decodeCommand
  split_ifs <;> simp_all [CommandBytes.toList]

/-- A written byte is a command exactly when nothing is pending. -/
theorem decodeWritten_cases (c : CommandBytes) (p b : Byte) :
    (p = 0#8 ∧ decodeWritten c p b = decodeCommand c b) ∨ (p ≠ 0#8 ∧ decodeWritten c p b = .wdata b) := by
  unfold decodeWritten
  split_ifs <;> simp_all

/-- A read is past the end exactly when nothing is pending. -/
theorem decodeRead_cases (p : Byte) : (p = 0#8 ∧ decodeRead p = .rpe) ∨ (p ≠ 0#8 ∧ decodeRead p = .rdata) := by
  unfold decodeRead
  split_ifs <;> simp_all

end Sys2Proof
end

