-- ==== Sys2Proof/Laws/State.lean ====
section
/-! SUPPORT. One lemma per field of each update of the state, true by unfolding, so that no later proof unfolds a record
update. -/

namespace Sys2Proof.Machine

section
variable (d : DeviceState) (n : Byte) (w : U16) (t : WriteTarget)
@[simp] theorem select_storedTemperature :
    (d.select n w t).storedTemperature = d.storedTemperature := rfl
@[simp] theorem select_measuredTemperature :
    (d.select n w t).measuredTemperature = d.measuredTemperature := rfl
@[simp] theorem select_thresholdHigh :
    (d.select n w t).thresholdHigh = d.thresholdHigh := rfl
@[simp] theorem select_thresholdLow :
    (d.select n w t).thresholdLow = d.thresholdLow := rfl
@[simp] theorem select_config :
    (d.select n w t).config = d.config := rfl
@[simp] theorem select_outputPinActive :
    (d.select n w t).outputPinActive = d.outputPinActive := rfl
@[simp] theorem select_readCounter :
    (d.select n w t).readCounter = d.readCounter := rfl
@[simp] theorem select_readSlope :
    (d.select n w t).readSlope = d.readSlope := rfl
@[simp] theorem select_convertingContinuously :
    (d.select n w t).convertingContinuously = d.convertingContinuously := rfl
@[simp] theorem select_pendingByteCount :
    (d.select n w t).pendingByteCount = n := rfl
@[simp] theorem select_transferBuffer :
    (d.select n w t).transferBuffer = w := rfl
@[simp] theorem select_writeTarget :
    (d.select n w t).writeTarget = t := rfl
end

section
variable (d : DeviceState) 
@[simp] theorem abandonTransfer_storedTemperature :
    (d.abandonTransfer).storedTemperature = d.storedTemperature := rfl
@[simp] theorem abandonTransfer_measuredTemperature :
    (d.abandonTransfer).measuredTemperature = d.measuredTemperature := rfl
@[simp] theorem abandonTransfer_thresholdHigh :
    (d.abandonTransfer).thresholdHigh = d.thresholdHigh := rfl
@[simp] theorem abandonTransfer_thresholdLow :
    (d.abandonTransfer).thresholdLow = d.thresholdLow := rfl
@[simp] theorem abandonTransfer_config :
    (d.abandonTransfer).config = d.config := rfl
@[simp] theorem abandonTransfer_outputPinActive :
    (d.abandonTransfer).outputPinActive = d.outputPinActive := rfl
@[simp] theorem abandonTransfer_readCounter :
    (d.abandonTransfer).readCounter = d.readCounter := rfl
@[simp] theorem abandonTransfer_readSlope :
    (d.abandonTransfer).readSlope = d.readSlope := rfl
@[simp] theorem abandonTransfer_convertingContinuously :
    (d.abandonTransfer).convertingContinuously = d.convertingContinuously := rfl
@[simp] theorem abandonTransfer_pendingByteCount :
    (d.abandonTransfer).pendingByteCount = 0#8 := rfl
@[simp] theorem abandonTransfer_transferBuffer :
    (d.abandonTransfer).transferBuffer = d.transferBuffer := rfl
@[simp] theorem abandonTransfer_writeTarget :
    (d.abandonTransfer).writeTarget = .none := rfl
end

section
variable (d : DeviceState) (b : Byte)
@[simp] theorem takeByte_storedTemperature :
    (d.takeByte b).storedTemperature = d.storedTemperature := rfl
@[simp] theorem takeByte_measuredTemperature :
    (d.takeByte b).measuredTemperature = d.measuredTemperature := rfl
@[simp] theorem takeByte_thresholdHigh :
    (d.takeByte b).thresholdHigh = d.thresholdHigh := rfl
@[simp] theorem takeByte_thresholdLow :
    (d.takeByte b).thresholdLow = d.thresholdLow := rfl
@[simp] theorem takeByte_config :
    (d.takeByte b).config = d.config := rfl
@[simp] theorem takeByte_outputPinActive :
    (d.takeByte b).outputPinActive = d.outputPinActive := rfl
@[simp] theorem takeByte_readCounter :
    (d.takeByte b).readCounter = d.readCounter := rfl
@[simp] theorem takeByte_readSlope :
    (d.takeByte b).readSlope = d.readSlope := rfl
@[simp] theorem takeByte_convertingContinuously :
    (d.takeByte b).convertingContinuously = d.convertingContinuously := rfl
@[simp] theorem takeByte_pendingByteCount :
    (d.takeByte b).pendingByteCount = d.pendingByteCount - 1#8 := rfl
@[simp] theorem takeByte_transferBuffer :
    (d.takeByte b).transferBuffer = shiftIn d.transferBuffer b := rfl
@[simp] theorem takeByte_writeTarget :
    (d.takeByte b).writeTarget = d.writeTarget := rfl
end

section
variable (d : DeviceState) 
@[simp] theorem readTemperature_storedTemperature :
    (d.readTemperature).storedTemperature = d.storedTemperature := rfl
@[simp] theorem readTemperature_measuredTemperature :
    (d.readTemperature).measuredTemperature = d.measuredTemperature := rfl
@[simp] theorem readTemperature_thresholdHigh :
    (d.readTemperature).thresholdHigh = d.thresholdHigh := rfl
@[simp] theorem readTemperature_thresholdLow :
    (d.readTemperature).thresholdLow = d.thresholdLow := rfl
@[simp] theorem readTemperature_config :
    (d.readTemperature).config = d.config := rfl
@[simp] theorem readTemperature_outputPinActive :
    (d.readTemperature).outputPinActive = d.outputPinActive := rfl
@[simp] theorem readTemperature_readCounter :
    (d.readTemperature).readCounter = (extendedResolutionRegisters d.measuredTemperature).counter := rfl
@[simp] theorem readTemperature_readSlope :
    (d.readTemperature).readSlope = (extendedResolutionRegisters d.measuredTemperature).slope := rfl
@[simp] theorem readTemperature_convertingContinuously :
    (d.readTemperature).convertingContinuously = d.convertingContinuously := rfl
@[simp] theorem readTemperature_pendingByteCount :
    (d.readTemperature).pendingByteCount = 2#8 := rfl
@[simp] theorem readTemperature_transferBuffer :
    (d.readTemperature).transferBuffer = (extendedResolutionRegisters d.measuredTemperature).roundedNative := rfl
@[simp] theorem readTemperature_writeTarget :
    (d.readTemperature).writeTarget = .none := rfl
end

section
variable (s : State) 
@[simp] theorem endTurn_params :
    (s.endTurn).params = s.params := rfl
@[simp] theorem endTurn_dev :
    (s.endTurn).dev = s.dev := rfl
@[simp] theorem endTurn_attached :
    (s.endTurn).attached = s.attached := rfl
@[simp] theorem endTurn_tLocal :
    (s.endTurn).tLocal = s.tLocal := rfl
@[simp] theorem endTurn_aLocal :
    (s.endTurn).aLocal = s.aLocal := rfl
@[simp] theorem endTurn_tQueue :
    (s.endTurn).tQueue = s.tQueue := rfl
@[simp] theorem endTurn_aQueue :
    (s.endTurn).aQueue = s.aQueue := rfl
@[simp] theorem endTurn_hQueue :
    (s.endTurn).hQueue = s.hQueue := rfl
@[simp] theorem endTurn_lQueue :
    (s.endTurn).lQueue = s.lQueue := rfl
@[simp] theorem endTurn_schedule :
    (s.endTurn).schedule = s.schedule.tail := rfl
@[simp] theorem endTurn_emitted :
    (s.endTurn).emitted = s.emitted := rfl
@[simp] theorem endTurn_answers :
    (s.endTurn).answers = s.answers := rfl
@[simp] theorem endTurn_drawCount :
    (s.endTurn).drawCount = s.drawCount := rfl
end

section
variable (s : State) 
@[simp] theorem dequeueLifecycle_params :
    (s.dequeueLifecycle).params = s.params := rfl
@[simp] theorem dequeueLifecycle_dev :
    (s.dequeueLifecycle).dev = s.dev := rfl
@[simp] theorem dequeueLifecycle_attached :
    (s.dequeueLifecycle).attached = s.attached := rfl
@[simp] theorem dequeueLifecycle_tLocal :
    (s.dequeueLifecycle).tLocal = s.tLocal := rfl
@[simp] theorem dequeueLifecycle_aLocal :
    (s.dequeueLifecycle).aLocal = s.aLocal := rfl
@[simp] theorem dequeueLifecycle_tQueue :
    (s.dequeueLifecycle).tQueue = s.tQueue := rfl
@[simp] theorem dequeueLifecycle_aQueue :
    (s.dequeueLifecycle).aQueue = s.aQueue := rfl
@[simp] theorem dequeueLifecycle_hQueue :
    (s.dequeueLifecycle).hQueue = s.hQueue := rfl
@[simp] theorem dequeueLifecycle_lQueue :
    (s.dequeueLifecycle).lQueue = s.lQueue.tail := rfl
@[simp] theorem dequeueLifecycle_schedule :
    (s.dequeueLifecycle).schedule = s.schedule := rfl
@[simp] theorem dequeueLifecycle_emitted :
    (s.dequeueLifecycle).emitted = s.emitted := rfl
@[simp] theorem dequeueLifecycle_answers :
    (s.dequeueLifecycle).answers = s.answers := rfl
@[simp] theorem dequeueLifecycle_drawCount :
    (s.dequeueLifecycle).drawCount = s.drawCount := rfl
end

section
variable (s : State) 
@[simp] theorem readPastEnd_params :
    (s.readPastEnd).params = s.params := rfl
@[simp] theorem readPastEnd_dev :
    (s.readPastEnd).dev = s.dev := rfl
@[simp] theorem readPastEnd_attached :
    (s.readPastEnd).attached = s.attached := rfl
@[simp] theorem readPastEnd_tLocal :
    (s.readPastEnd).tLocal = s.tLocal := rfl
@[simp] theorem readPastEnd_aLocal :
    (s.readPastEnd).aLocal = s.aLocal := rfl
@[simp] theorem readPastEnd_tQueue :
    (s.readPastEnd).tQueue = s.tQueue := rfl
@[simp] theorem readPastEnd_aQueue :
    (s.readPastEnd).aQueue = s.aQueue := rfl
@[simp] theorem readPastEnd_hQueue :
    (s.readPastEnd).hQueue = s.hQueue := rfl
@[simp] theorem readPastEnd_lQueue :
    (s.readPastEnd).lQueue = s.lQueue := rfl
@[simp] theorem readPastEnd_schedule :
    (s.readPastEnd).schedule = s.schedule := rfl
@[simp] theorem readPastEnd_emitted :
    (s.readPastEnd).emitted = s.emitted ++ [Config.drawByte s.drawCount] := rfl
@[simp] theorem readPastEnd_answers :
    (s.readPastEnd).answers = s.answers := rfl
@[simp] theorem readPastEnd_drawCount :
    (s.readPastEnd).drawCount = s.drawCount + 1 := rfl
end

section
variable (s : State) 
@[simp] theorem attach_params :
    (s.attach).params = s.params := rfl
@[simp] theorem attach_dev :
    (s.attach).dev = DeviceState.atAttach s.params := rfl
@[simp] theorem attach_attached :
    (s.attach).attached = true := rfl
@[simp] theorem attach_tLocal :
    (s.attach).tLocal = .idle := rfl
@[simp] theorem attach_aLocal :
    (s.attach).aLocal = .idle := rfl
@[simp] theorem attach_tQueue :
    (s.attach).tQueue = s.tQueue := rfl
@[simp] theorem attach_aQueue :
    (s.attach).aQueue = s.aQueue := rfl
@[simp] theorem attach_hQueue :
    (s.attach).hQueue = s.hQueue := rfl
@[simp] theorem attach_lQueue :
    (s.attach).lQueue = s.lQueue := rfl
@[simp] theorem attach_schedule :
    (s.attach).schedule = s.schedule := rfl
@[simp] theorem attach_emitted :
    (s.attach).emitted = s.emitted := rfl
@[simp] theorem attach_answers :
    (s.attach).answers = s.answers := rfl
@[simp] theorem attach_drawCount :
    (s.attach).drawCount = s.drawCount := rfl
end

section
variable (s : State) 
@[simp] theorem detach_params :
    (s.detach).params = s.params := rfl
@[simp] theorem detach_dev :
    (s.detach).dev = DeviceState.atAttach s.params := rfl
@[simp] theorem detach_attached :
    (s.detach).attached = false := rfl
@[simp] theorem detach_tLocal :
    (s.detach).tLocal = .idle := rfl
@[simp] theorem detach_aLocal :
    (s.detach).aLocal = .idle := rfl
@[simp] theorem detach_tQueue :
    (s.detach).tQueue = s.tQueue := rfl
@[simp] theorem detach_aQueue :
    (s.detach).aQueue = s.aQueue := rfl
@[simp] theorem detach_hQueue :
    (s.detach).hQueue = s.hQueue := rfl
@[simp] theorem detach_lQueue :
    (s.detach).lQueue = s.lQueue := rfl
@[simp] theorem detach_schedule :
    (s.detach).schedule = s.schedule := rfl
@[simp] theorem detach_emitted :
    (s.detach).emitted = s.emitted := rfl
@[simp] theorem detach_answers :
    (s.detach).answers = s.answers := rfl
@[simp] theorem detach_drawCount :
    (s.detach).drawCount = s.drawCount := rfl
end

section
variable (s : State) 
@[simp] theorem asSplit_params :
    (s.asSplit).params = { s.params with atomicity := .split } := rfl
@[simp] theorem asSplit_dev :
    (s.asSplit).dev = s.dev := rfl
@[simp] theorem asSplit_attached :
    (s.asSplit).attached = s.attached := rfl
@[simp] theorem asSplit_tLocal :
    (s.asSplit).tLocal = s.tLocal := rfl
@[simp] theorem asSplit_aLocal :
    (s.asSplit).aLocal = s.aLocal := rfl
@[simp] theorem asSplit_tQueue :
    (s.asSplit).tQueue = s.tQueue := rfl
@[simp] theorem asSplit_aQueue :
    (s.asSplit).aQueue = s.aQueue := rfl
@[simp] theorem asSplit_hQueue :
    (s.asSplit).hQueue = s.hQueue := rfl
@[simp] theorem asSplit_lQueue :
    (s.asSplit).lQueue = s.lQueue := rfl
@[simp] theorem asSplit_schedule :
    (s.asSplit).schedule = s.schedule := rfl
@[simp] theorem asSplit_emitted :
    (s.asSplit).emitted = s.emitted := rfl
@[simp] theorem asSplit_answers :
    (s.asSplit).answers = s.answers := rfl
@[simp] theorem asSplit_drawCount :
    (s.asSplit).drawCount = s.drawCount := rfl
end

section
variable (s : State) 
@[simp] theorem asEvent_params :
    (s.asEvent).params = { s.params with atomicity := .event } := rfl
@[simp] theorem asEvent_dev :
    (s.asEvent).dev = s.dev := rfl
@[simp] theorem asEvent_attached :
    (s.asEvent).attached = s.attached := rfl
@[simp] theorem asEvent_tLocal :
    (s.asEvent).tLocal = s.tLocal := rfl
@[simp] theorem asEvent_aLocal :
    (s.asEvent).aLocal = s.aLocal := rfl
@[simp] theorem asEvent_tQueue :
    (s.asEvent).tQueue = s.tQueue := rfl
@[simp] theorem asEvent_aQueue :
    (s.asEvent).aQueue = s.aQueue := rfl
@[simp] theorem asEvent_hQueue :
    (s.asEvent).hQueue = s.hQueue := rfl
@[simp] theorem asEvent_lQueue :
    (s.asEvent).lQueue = s.lQueue := rfl
@[simp] theorem asEvent_schedule :
    (s.asEvent).schedule = s.schedule := rfl
@[simp] theorem asEvent_emitted :
    (s.asEvent).emitted = s.emitted := rfl
@[simp] theorem asEvent_answers :
    (s.asEvent).answers = s.answers := rfl
@[simp] theorem asEvent_drawCount :
    (s.asEvent).drawCount = s.drawCount := rfl
end

section
variable (s : State) (o : Operation)
@[simp] theorem dequeue_params : (s.dequeue o).params = s.params := by cases o <;> rfl
@[simp] theorem dequeue_dev : (s.dequeue o).dev = s.dev := by cases o <;> rfl
@[simp] theorem dequeue_attached : (s.dequeue o).attached = s.attached := by cases o <;> rfl
@[simp] theorem dequeue_tLocal : (s.dequeue o).tLocal = s.tLocal := by cases o <;> rfl
@[simp] theorem dequeue_aLocal : (s.dequeue o).aLocal = s.aLocal := by cases o <;> rfl
@[simp] theorem dequeue_lQueue : (s.dequeue o).lQueue = s.lQueue := by cases o <;> rfl
@[simp] theorem dequeue_schedule : (s.dequeue o).schedule = s.schedule := by cases o <;> rfl
@[simp] theorem dequeue_emitted : (s.dequeue o).emitted = s.emitted := by cases o <;> rfl
@[simp] theorem dequeue_answers : (s.dequeue o).answers = s.answers := by cases o <;> rfl
@[simp] theorem dequeue_drawCount : (s.dequeue o).drawCount = s.drawCount := by cases o <;> rfl
end

@[simp] theorem reEval_storedTemperature (m : I32) (d : DeviceState) : (reEval m d).storedTemperature = d.storedTemperature := by
  unfold reEval testBelowLow testLow testHigh; split_ifs <;> rfl
@[simp] theorem reEval_thresholdHigh (m : I32) (d : DeviceState) : (reEval m d).thresholdHigh = d.thresholdHigh := by
  unfold reEval testBelowLow testLow testHigh; split_ifs <;> rfl
@[simp] theorem reEval_thresholdLow (m : I32) (d : DeviceState) : (reEval m d).thresholdLow = d.thresholdLow := by
  unfold reEval testBelowLow testLow testHigh; split_ifs <;> rfl
@[simp] theorem reEval_readCounter (m : I32) (d : DeviceState) : (reEval m d).readCounter = d.readCounter := by
  unfold reEval testBelowLow testLow testHigh; split_ifs <;> rfl
@[simp] theorem reEval_readSlope (m : I32) (d : DeviceState) : (reEval m d).readSlope = d.readSlope := by
  unfold reEval testBelowLow testLow testHigh; split_ifs <;> rfl
@[simp] theorem reEval_convertingContinuously (m : I32) (d : DeviceState) : (reEval m d).convertingContinuously = d.convertingContinuously := by
  unfold reEval testBelowLow testLow testHigh; split_ifs <;> rfl
@[simp] theorem reEval_pendingByteCount (m : I32) (d : DeviceState) : (reEval m d).pendingByteCount = d.pendingByteCount := by
  unfold reEval testBelowLow testLow testHigh; split_ifs <;> rfl
@[simp] theorem reEval_transferBuffer (m : I32) (d : DeviceState) : (reEval m d).transferBuffer = d.transferBuffer := by
  unfold reEval testBelowLow testLow testHigh; split_ifs <;> rfl
@[simp] theorem reEval_writeTarget (m : I32) (d : DeviceState) : (reEval m d).writeTarget = d.writeTarget := by
  unfold reEval testBelowLow testLow testHigh; split_ifs <;> rfl
@[simp] theorem reEval_measuredTemperature (m : I32) (d : DeviceState) : (reEval m d).measuredTemperature = m := by
  unfold reEval testBelowLow testLow testHigh; split_ifs <;> rfl
@[simp] theorem commit_storedTemperature (d : DeviceState) : d.commit.storedTemperature = d.storedTemperature := by
  unfold DeviceState.commit; split <;> rfl
@[simp] theorem commit_measuredTemperature (d : DeviceState) : d.commit.measuredTemperature = d.measuredTemperature := by
  unfold DeviceState.commit; split <;> rfl
@[simp] theorem commit_outputPinActive (d : DeviceState) : d.commit.outputPinActive = d.outputPinActive := by
  unfold DeviceState.commit; split <;> rfl
@[simp] theorem commit_readCounter (d : DeviceState) : d.commit.readCounter = d.readCounter := by
  unfold DeviceState.commit; split <;> rfl
@[simp] theorem commit_readSlope (d : DeviceState) : d.commit.readSlope = d.readSlope := by
  unfold DeviceState.commit; split <;> rfl
@[simp] theorem commit_convertingContinuously (d : DeviceState) : d.commit.convertingContinuously = d.convertingContinuously := by
  unfold DeviceState.commit; split <;> rfl
@[simp] theorem commit_pendingByteCount (d : DeviceState) : d.commit.pendingByteCount = d.pendingByteCount := by
  unfold DeviceState.commit; split <;> rfl
@[simp] theorem commit_transferBuffer (d : DeviceState) : d.commit.transferBuffer = d.transferBuffer := by
  unfold DeviceState.commit; split <;> rfl
@[simp] theorem commit_writeTarget (d : DeviceState) : d.commit.writeTarget = .none := by
  unfold DeviceState.commit; split <;> simp_all
@[simp] theorem enterContinuous_storedTemperature (d : DeviceState) : d.enterContinuous.storedTemperature = d.storedTemperature := by
  unfold DeviceState.enterContinuous; split <;> rfl
@[simp] theorem enterContinuous_measuredTemperature (d : DeviceState) : d.enterContinuous.measuredTemperature = d.measuredTemperature := by
  unfold DeviceState.enterContinuous; split <;> rfl
@[simp] theorem enterContinuous_thresholdHigh (d : DeviceState) : d.enterContinuous.thresholdHigh = d.thresholdHigh := by
  unfold DeviceState.enterContinuous; split <;> rfl
@[simp] theorem enterContinuous_thresholdLow (d : DeviceState) : d.enterContinuous.thresholdLow = d.thresholdLow := by
  unfold DeviceState.enterContinuous; split <;> rfl
@[simp] theorem enterContinuous_config (d : DeviceState) : d.enterContinuous.config = d.config := by
  unfold DeviceState.enterContinuous; split <;> rfl
@[simp] theorem enterContinuous_outputPinActive (d : DeviceState) : d.enterContinuous.outputPinActive = d.outputPinActive := by
  unfold DeviceState.enterContinuous; split <;> rfl
@[simp] theorem enterContinuous_readCounter (d : DeviceState) : d.enterContinuous.readCounter = d.readCounter := by
  unfold DeviceState.enterContinuous; split <;> rfl
@[simp] theorem enterContinuous_readSlope (d : DeviceState) : d.enterContinuous.readSlope = d.readSlope := by
  unfold DeviceState.enterContinuous; split <;> rfl
@[simp] theorem enterContinuous_pendingByteCount (d : DeviceState) : d.enterContinuous.pendingByteCount = d.pendingByteCount := by
  unfold DeviceState.enterContinuous; split <;> rfl
@[simp] theorem enterContinuous_transferBuffer (d : DeviceState) : d.enterContinuous.transferBuffer = d.transferBuffer := by
  unfold DeviceState.enterContinuous; split <;> rfl
@[simp] theorem enterContinuous_writeTarget (d : DeviceState) : d.enterContinuous.writeTarget = d.writeTarget := by
  unfold DeviceState.enterContinuous; split <;> rfl
@[simp] theorem afterRead_storedTemperature (d : DeviceState) : d.afterRead.storedTemperature = d.storedTemperature := by
  unfold DeviceState.afterRead; split <;> rfl
@[simp] theorem afterRead_measuredTemperature (d : DeviceState) : d.afterRead.measuredTemperature = d.measuredTemperature := by
  unfold DeviceState.afterRead; split <;> rfl
@[simp] theorem afterRead_thresholdHigh (d : DeviceState) : d.afterRead.thresholdHigh = d.thresholdHigh := by
  unfold DeviceState.afterRead; split <;> rfl
@[simp] theorem afterRead_thresholdLow (d : DeviceState) : d.afterRead.thresholdLow = d.thresholdLow := by
  unfold DeviceState.afterRead; split <;> rfl
@[simp] theorem afterRead_config (d : DeviceState) : d.afterRead.config = d.config := by
  unfold DeviceState.afterRead; split <;> rfl
@[simp] theorem afterRead_outputPinActive (d : DeviceState) : d.afterRead.outputPinActive = d.outputPinActive := by
  unfold DeviceState.afterRead; split <;> rfl
@[simp] theorem afterRead_readCounter (d : DeviceState) : d.afterRead.readCounter = d.readCounter := by
  unfold DeviceState.afterRead; split <;> rfl
@[simp] theorem afterRead_readSlope (d : DeviceState) : d.afterRead.readSlope = d.readSlope := by
  unfold DeviceState.afterRead; split <;> rfl
@[simp] theorem afterRead_convertingContinuously (d : DeviceState) : d.afterRead.convertingContinuously = d.convertingContinuously := by
  unfold DeviceState.afterRead; split <;> rfl
@[simp] theorem afterRead_transferBuffer (d : DeviceState) : d.afterRead.transferBuffer = d.transferBuffer := by
  unfold DeviceState.afterRead; split <;> rfl

end Sys2Proof.Machine
end

