-- ==== Sys2Proof/Laws/Ops.lean ====
section
/-! SUPPORT. What each shared operation can do, said once: the provers cite these instead of unfolding it. -/

namespace Sys2Proof.Machine

/-- CONFIG after a re-evaluation: nothing but bits 6 and 5 can be set, and none cleared. -/
theorem reEval_config_cases (m : I32) (d : DeviceState) :
    (reEval m d).config = d.config ∨ (reEval m d).config = setHighFlag d.config ∨
      (reEval m d).config = setLowFlag d.config ∨ (reEval m d).config = setLowFlag (setHighFlag d.config) := by
  unfold reEval testBelowLow testLow testHigh
  split_ifs <;> simp

/-- Where a commit stores: the buffer into the register of the target, and nothing else but the target. -/
theorem commit_cases (d : DeviceState) :
    (d.writeTarget = .th ∧ d.commit = { d with thresholdHigh := d.transferBuffer, writeTarget := .none }) ∨
      (d.writeTarget = .tl ∧ d.commit = { d with thresholdLow := d.transferBuffer, writeTarget := .none }) ∨
      (d.writeTarget = .config ∧ d.commit = { d with config := lowByte d.transferBuffer, writeTarget := .none }) ∨
      (d.writeTarget = .none ∧ d.commit = d) := by
  unfold DeviceState.commit
  cases h : d.writeTarget <;> simp

/-- A data byte is counted and assembled, and commits exactly when it is the last. -/
theorem writeByte_cases (b : Byte) (d : DeviceState) :
    (d.pendingByteCount ≠ 1#8 ∧ d.writeByte b = d.takeByte b) ∨
      (d.pendingByteCount = 1#8 ∧ d.writeByte b = (d.takeByte b).commit) := by
  unfold DeviceState.writeByte
  by_cases h : d.pendingByteCount = 1#8
  · right; simp [h]
  · left; refine ⟨h, ?_⟩; rw [if_neg]; intro h'; exact h (by bv_omega)

/-- A byte completes a threshold write exactly when it is the last and the target is TH or TL. -/
theorem completesThreshold_iff (d : DeviceState) :
    d.completesThreshold = true ↔ d.pendingByteCount = 1#8 ∧ (d.writeTarget = .th ∨ d.writeTarget = .tl) := by
  have h : d.pendingByteCount - 1#8 = 0#8 ↔ d.pendingByteCount = 1#8 := by
    constructor <;> intro h <;> bv_omega
  unfold DeviceState.completesThreshold
  rw [Bool.and_eq_true, decide_eq_true_iff, h]
  cases d.writeTarget <;> simp [WriteTarget.isThreshold]

/-- Everything a data byte can do to the machine. -/
theorem dataByte_cases (b : Byte) (s : State) :
    (s.dev.completesThreshold = false ∧ s.dataByte b = { s with dev := s.dev.writeByte b }) ∨
      (s.dev.completesThreshold = true ∧ s.params.atomicity = .event ∧
        s.dataByte b = { s with dev := (s.dev.writeByte b).thresholdReEval }) ∨
      (s.dev.completesThreshold = true ∧ s.params.atomicity = .split ∧
        s.dataByte b = { s with dev := s.dev.writeByte b,
                                tLocal := .thresholdStored (s.dev.writeByte b).convertingContinuously }) := by
  unfold State.dataByte
  cases h : s.dev.completesThreshold <;> cases h' : s.params.atomicity <;> simp

/-- Everything a read can do to the machine. -/
theorem readByte_cases (s : State) :
    (s.dev.pendingByteCount = 0#8 ∧ s.readByte = s.readPastEnd) ∨
      (s.dev.pendingByteCount ≠ 0#8 ∧
        s.readByte = { s with dev := s.dev.afterRead,
                              emitted := s.emitted ++ [byteOut s.dev.transferBuffer s.dev.pendingByteCount] }) := by
  unfold State.readByte
  by_cases h : s.dev.pendingByteCount = 0#8
  · exact .inl ⟨h, if_pos h⟩
  · exact .inr ⟨h, if_neg h⟩

/-- Everything Start Convert can do to the machine in its step. -/
theorem startConvert_cases (s : State) :
    (s.params.atomicity = .event ∧
        s.startConvert = { s with dev := (reEval s.dev.storedTemperature s.dev).enterContinuous }) ∨
      (s.params.atomicity = .split ∧
        s.startConvert = { s with tLocal := .startSampled s.dev.storedTemperature }) := by
  unfold State.startConvert
  cases h : s.params.atomicity <;> simp

/-- Everything an ambient update can do to the machine in its step. -/
theorem setAmbient_cases (v : I32) (s : State) :
    (s.params.atomicity = .event ∧ s.dev.convertingContinuously = true ∧
        s.setAmbient v = { s with dev := reEval v { s.dev with storedTemperature := v } }) ∨
      (s.params.atomicity = .event ∧ s.dev.convertingContinuously = false ∧
        s.setAmbient v = { s with dev := { s.dev with storedTemperature := v } }) ∨
      (s.params.atomicity = .split ∧
        s.setAmbient v = { s with dev := { s.dev with storedTemperature := v }, aLocal := .stored v }) := by
  unfold State.setAmbient
  cases h : s.params.atomicity <;> cases h' : s.dev.convertingContinuously <;> simp [h']

@[simp] theorem lifecycle_attach (s : State) : s.lifecycle .attach = s.attach := rfl
@[simp] theorem lifecycle_detach (s : State) : s.lifecycle .detach = s.detach := rfl

/-- Everything a lifecycle operation can do to the machine: the block's record is the attach record after either. -/
theorem lifecycle_cases (o : LifecycleOp) (s : State) :
    ∃ b, s.lifecycle o = { s with dev := DeviceState.atAttach s.params, attached := b, tLocal := .idle, aLocal := .idle } := by
  cases o
  · exact ⟨true, rfl⟩
  · exact ⟨false, rfl⟩

/-- Everything a step can be. -/
theorem step_cases {s t : State} (h : step s = .next t) :
    s.params.commands.Distinct ∧
      ((s.activity = .wait ∧ t = s.endTurn) ∨
        (∃ o, s.activity = .lifecycle o ∧ t = s.endTurn.dequeueLifecycle.lifecycle o) ∨
        (s.activity = .resumeTransport ∧ t = s.endTurn.resumeTransport) ∨
        (s.activity = .resumeAmbient ∧ t = s.endTurn.resumeAmbient) ∨
        (∃ o, s.activity = .issue o ∧ s.attached = true ∧
          exec (s.decode o) (s.endTurn.dequeue o) = .next t)) := by
  unfold step at h
  split at h
  · refine ⟨‹_›, ?_⟩
    split at h
    · simp_all
    · simp_all
    · simp_all
    · simp_all
    · split at h
      · simp_all
      · cases h
  · cases h

/-- A dispatched byte is the command its value names. -/
theorem dispatchByte_eq_exec (b : Byte) (s : State) :
    dispatchByte b s = exec (decodeCommand s.params.commands b) s := by
  simp only [dispatchByte, decodeCommand]
  split_ifs <;> rfl

end Sys2Proof.Machine
end

