-- ==== Sys2Proof/Laws/PerInstr.lean ====
section
/-! SUPPORT. A statement about every instruction as syntax, one lemma per constructor: an instruction is encoded as an
operation of the agent its row belongs to (00_scope.md R4, R5). -/

namespace Sys2Proof.Laws

/-- Whatever the command bytes are, the operation that carries the instruction is one of its own agent's. -/
def EncodedByOwnAgent.Statement (i : Instr) : Prop := ∀ c : CommandBytes, (encode c i).agent = i.agent

theorem EncodedByOwnAgent.accth : EncodedByOwnAgent.Statement .accth := fun _ => rfl
theorem EncodedByOwnAgent.acctl : EncodedByOwnAgent.Statement .acctl := fun _ => rfl
theorem EncodedByOwnAgent.acccfg : EncodedByOwnAgent.Statement .acccfg := fun _ => rfl
theorem EncodedByOwnAgent.rdcnt : EncodedByOwnAgent.Statement .rdcnt := fun _ => rfl
theorem EncodedByOwnAgent.rdslp : EncodedByOwnAgent.Statement .rdslp := fun _ => rfl
theorem EncodedByOwnAgent.rdtemp : EncodedByOwnAgent.Statement .rdtemp := fun _ => rfl
theorem EncodedByOwnAgent.start : EncodedByOwnAgent.Statement .start := fun _ => rfl
theorem EncodedByOwnAgent.stop : EncodedByOwnAgent.Statement .stop := fun _ => rfl
theorem EncodedByOwnAgent.unknown (b : Byte) : EncodedByOwnAgent.Statement (.unknown b) := fun _ => rfl
theorem EncodedByOwnAgent.wdata (d : Byte) : EncodedByOwnAgent.Statement (.wdata d) := fun _ => rfl
theorem EncodedByOwnAgent.rdata : EncodedByOwnAgent.Statement .rdata := fun _ => rfl
theorem EncodedByOwnAgent.ws : EncodedByOwnAgent.Statement .ws := fun _ => rfl
theorem EncodedByOwnAgent.wb (b : Byte) : EncodedByOwnAgent.Statement (.wb b) := fun _ => rfl
theorem EncodedByOwnAgent.rs : EncodedByOwnAgent.Statement .rs := fun _ => rfl
theorem EncodedByOwnAgent.rq : EncodedByOwnAgent.Statement .rq := fun _ => rfl
theorem EncodedByOwnAgent.rc : EncodedByOwnAgent.Statement .rc := fun _ => rfl
theorem EncodedByOwnAgent.rpe : EncodedByOwnAgent.Statement .rpe := fun _ => rfl
theorem EncodedByOwnAgent.sp : EncodedByOwnAgent.Statement .sp := fun _ => rfl
theorem EncodedByOwnAgent.amb (v : I32) : EncodedByOwnAgent.Statement (.amb v) := fun _ => rfl
theorem EncodedByOwnAgent.pinq : EncodedByOwnAgent.Statement .pinq := fun _ => rfl
theorem EncodedByOwnAgent.cfgq : EncodedByOwnAgent.Statement .cfgq := fun _ => rfl
theorem EncodedByOwnAgent.thrq : EncodedByOwnAgent.Statement .thrq := fun _ => rfl

end Sys2Proof.Laws
end

