-- ==== Sys2Proof/Tests/Slice0.lean ====
section
/-! SUPPORT. Tests: words and vectors taken from spec/30_encoding.md and spec/95_test_vectors.md (the vector's name stands in
each comment), the smoke tests of well-formedness, and the witnesses that the obligations' hypotheses can be met. -/

namespace Sys2Proof.Tests
open Sys2Proof Sys2Proof.Machine

section Helpers

/-- The state after an outcome. -/
def stateOf : Host.Outcome State Fault Refusal → Option State
  | .next s    => some s
  | .fault _   => none
  | .refused _ => none

/-- The block after an outcome. -/
def devOf : Host.Outcome State Fault Refusal → Option DeviceState
  | .next s    => some s.dev
  | .fault _   => none
  | .refused _ => none

/-- What `T` has been given after an outcome. -/
def emittedOf : Host.Outcome State Fault Refusal → Option (List Byte)
  | .next s    => some s.emitted
  | .fault _   => none
  | .refused _ => none

/-- What `H` has been given after an outcome. -/
def answersOf : Host.Outcome State Fault Refusal → Option (List DiagnosticAnswer)
  | .next s    => some s.answers
  | .fault _   => none
  | .refused _ => none

/-- Start state `D` of 95_test_vectors.md section 3. -/
def devD : DeviceState where
  storedTemperature := 21000
  measuredTemperature := 42420
  thresholdHigh := 0x1900
  thresholdLow := 0xFF80
  config := 0x02
  outputPinActive := false
  readCounter := 0
  readSlope := 0
  convertingContinuously := false
  pendingByteCount := 0
  transferBuffer := 0
  writeTarget := .none

/-- The machine in state `D`. -/
def stD : State := { State.reset with dev := devD }

/-- The machine with block `d`, nothing else happening, under `SPLIT`. -/
def splitWith (d : DeviceState) : State := ({ State.reset with dev := d } : State).asSplit

/-- Block `D` with `n` bytes pending, the buffer `w` and the target `t`. -/
def devPending (n : Byte) (w : U16) (t : WriteTarget) : DeviceState :=
  { devD with pendingByteCount := n, transferBuffer := w, writeTarget := t }

/-- The machine in which `T` moves next and writes `b`. -/
def writing (b : Byte) (d : DeviceState) : State :=
  { State.reset with dev := d, tQueue := [.byteWritten b], schedule := [.transport] }

/-- Command bytes that are not distinct. -/
def equalBytes : CommandBytes := { CommandBytes.default with accessTl := 0xA1 }

end Helpers

section Decoding

-- R73, written out bit by bit as the table's "encoding" column has them
theorem test_decode_accth : decodeTableWord 8 0b10100001 = some .accth := by decide
theorem test_decode_acctl : decodeTableWord 8 0b10100010 = some .acctl := by decide
theorem test_decode_acccfg : decodeTableWord 8 0b10101100 = some .acccfg := by decide
theorem test_decode_rdcnt : decodeTableWord 8 0b10101000 = some .rdcnt := by decide
theorem test_decode_rdslp : decodeTableWord 8 0b10101001 = some .rdslp := by decide
theorem test_decode_rdtemp : decodeTableWord 8 0b10101010 = some .rdtemp := by decide
theorem test_decode_start : decodeTableWord 8 0b11101110 = some .start := by decide
theorem test_decode_stop : decodeTableWord 8 0b00100010 = some .stop := by decide
-- R78: any other byte is an unknown command
theorem test_decode_unknown : decodeTableWord 8 0b00000000 = some (.unknown 0x00) := by decide
-- R79: while bytes are pending a command's byte is data
theorem test_decode_wdata :
    decodeOperation .default 1 (.transport (.byteWritten 0b10100001)) = .wdata 0xA1 := by decide
-- R71, R167: a read is RDATA while bytes are pending and RPE otherwise
theorem test_decode_rdata : decodeOperation .default 2 (.transport .byteRequested) = .rdata := by decide
theorem test_decode_rpe : decodeOperation .default 0 (.transport .byteConsumed) = .rpe := by decide
-- R81: the events and host calls by name
theorem test_decode_events :
    [Operation.transport .writeStreamStart, .transport (.byteWritten 7), .transport .readStreamStart,
      .transport .byteRequested, .transport .byteConsumed, .transport .streamStop, .ambient 5,
      .diagnostic .outputPinLevel, .diagnostic .rawConfig, .diagnostic .thresholds].map eventOfOperation =
    [.ws, .wb 7, .rs, .rq, .rc, .sp, .amb 5, .pinq, .cfgq, .thrq] := by decide
-- R72: no byte left, and no word of another width
theorem test_decode_no_byte : decodeBytes .default 0 [] = .error .noByteLeft := rfl
theorem test_decode_wide : decodeTableWord 16 0xA1 = none ∧ decodeTableWord 8 256 = none := by decide

-- the step runs the word placed where it takes its next operation from
theorem test_fetch_accth :
    devOf (step (State.reset.withFetchWord 8 0xA1)) = devOf (exec .accth State.reset) := by decide
theorem test_fetch_start :
    devOf (step (State.reset.withFetchWord 8 0xEE)) = devOf (exec .start State.reset) := by decide

end Decoding

section WellFormedness

-- R129: a command's byte is no unknown command
theorem test_wf_refuses_unknown_command_byte : Instr.wf .default (.unknown 0xA1) = false := by decide
theorem test_wf_accepts_unknown : Instr.wf .default (.unknown 0x00) = true := by decide
-- R80: equal command bytes
theorem test_distinct_refuses_equal : ¬ equalBytes.Distinct := by decide
theorem test_distinct_accepts_default : CommandBytes.default.Distinct := by decide
-- R71: a format outside its condition on pending
theorem test_fits_refuses_wdata_when_idle : Instr.fitsPending 0 (.wdata 1) = false := by decide
theorem test_fits_refuses_command_when_pending : Instr.fitsPending 1 .accth = false := by decide
theorem test_fits_refuses_rpe_when_pending : Instr.fitsPending 1 .rpe = false := by decide
-- R80: no step is taken with equal command bytes
theorem test_step_refuses_equal_bytes :
    step { State.reset with params := { Config.default with commands := equalBytes } } =
      .refused .ambiguousCommandBytes := rfl
-- R221: no operation reaches a block that is not attached
theorem test_step_refuses_detached :
    step { writing 0 devD with attached := false } = .refused .notAttached := rfl

end WellFormedness

section CodecVectors

-- V-C6, V-C8, V-C11, V-C14
theorem test_decode_native :
    decodeNativeToMilli 0xFFFF = -500 ∧ decodeNativeToMilli 0x8000 = -128000 ∧
    decodeNativeToMilli 0x7FFF = 127500 ∧ decodeNativeToMilli 0x2A80 = 42500 := by decide
-- R101's corner cases
theorem test_round_half_steps :
    [250, -250, 249, 0, 750, -750, 42420].map roundHalfSteps = [1, -1, 0, 0, 2, -2, 85] := by decide
-- V-C126, V-C115, V-C123
theorem test_extended_resolution :
    extendedResolutionRegisters 42420 = ⟨0x2A80, 84, 255⟩ ∧ extendedResolutionRegisters (-250) = ⟨0xFF80, 0, 255⟩ ∧
    extendedResolutionRegisters (-1250) = ⟨0xFE80, 0, 255⟩ := by decide
-- V-C130, V-C133, V-C134, V-C135: wrap, with exact intermediate products
theorem test_extended_resolution_wraps :
    extendedResolutionRegisters 127750 = ⟨0x8000, 255, 255⟩ ∧ extendedResolutionRegisters 200000 = ⟨0xC800, 192, 255⟩ ∧
    extendedResolutionRegisters 2147483647 = ⟨0x9B80, 27, 255⟩ ∧
    extendedResolutionRegisters (-2147483648) = ⟨0x6480, 101, 255⟩ := by decide

-- R105, R108: 127751 wraps to -128.0 degrees, and -65025.255 truncates to -65025 (a floor would give 254)
theorem test_counter_truncates_toward_zero : extendedResolutionRegisters 127751 = ⟨0x8000, 255, 255⟩ := by decide

end CodecVectors

section CommandVectors

-- V-D1
theorem test_accth : devOf (exec .accth stD) = some (devPending 2 0x1900 .th) := by decide
-- V-D2
theorem test_acctl : devOf (exec .acctl stD) = some (devPending 2 0xFF80 .tl) := by decide
-- V-D3: bit 3 is forced in the image only
theorem test_acccfg : devOf (exec .acccfg stD) = some (devPending 1 0x000A .config) := by decide
-- V-D4, with a counter that is not 0
theorem test_rdcnt : devOf (exec .rdcnt { stD with dev := { devD with readCounter := 84 } }) =
    some { devPending 1 0x0054 .none with readCounter := 84 } := by decide
-- V-D5, with a slope that is not 0
theorem test_rdslp : devOf (exec .rdslp { stD with dev := { devD with readSlope := 255 } }) =
    some { devPending 1 0x00FF .none with readSlope := 255 } := by decide
-- V-D6
theorem test_rdtemp : devOf (exec .rdtemp stD) =
    some { devPending 2 0x2A80 .none with readCounter := 84, readSlope := 255 } := by decide
-- V-D7
theorem test_start : devOf (exec .start { stD with dev := { devD with storedTemperature := 30000 } }) =
    some { devD with storedTemperature := 30000, measuredTemperature := 30000, config := 0x42,
                     outputPinActive := true, convertingContinuously := true } := by decide
-- V-D11: 1SHOT set leaves continuous conversion running
theorem test_start_one_shot :
    devOf (exec .start { stD with dev := { devD with config := 0x03, convertingContinuously := true } }) =
      some { devD with config := 0x03, convertingContinuously := true, measuredTemperature := 21000 } := by decide
-- V-D8
theorem test_stop : devOf (exec .stop { stD with dev := { devD with convertingContinuously := true } }) =
    some devD := by decide
-- V-D9
theorem test_unknown : devOf (exec (.unknown 0x00) stD) = some devD := by decide
-- R127 through the byte port, and a byte that is no command
theorem test_wb_dispatches : devOf (exec (.wb 0xEE) stD) = devOf (exec .start stD) ∧
    devOf (exec (.wb 0x00) stD) = some devD := by decide
-- R161: a data byte equal to a command's code is data
theorem test_wb_data : devOf (exec (.wb 0xA2) (({ stD with dev := devPending 2 0x1900 .th } : State))) =
    some (devPending 1 0x00A2 .th) := by decide

end CommandVectors

section TransferVectors

-- V-T1, last byte
theorem test_wdata_commits : devOf (exec (.wdata 0x34) { stD with dev := devPending 1 0x0012 .th }) =
    some { devPending 0 0x1234 .none with thresholdHigh := 0x1234 } := by decide
-- V-T16: a threshold write under continuous conversion re-evaluates at once
theorem test_wdata_reevaluates :
    devOf (exec (.wdata 0x00) { stD with dev :=
      { devPending 1 0x0014 .th with convertingContinuously := true, measuredTemperature := 21000, config := 0 } }) =
    some { devPending 0 0x1400 .none with thresholdHigh := 0x1400, convertingContinuously := true,
                                          measuredTemperature := 21000, config := 0x40, outputPinActive := true } := by
  decide
-- V-T9: the read returns the half-written byte and ends the transfer
theorem test_rdata_half_written :
    devOf (exec .rdata { stD with dev := devPending 1 0x0019 .th }) = some (devPending 0 0x0019 .none) ∧
    emittedOf (exec .rdata { stD with dev := devPending 1 0x0019 .th }) = some [0x19] := by decide
-- V-T5, V-T6: a write start discards a short write and keeps the buffer
theorem test_ws : devOf (exec .ws { stD with dev := devPending 1 0x0005 .th }) = some (devPending 0 0x0005 .none) := by
  decide
-- R165, R169
theorem test_rs : devOf (exec .rs { stD with dev := devPending 1 0x2A80 .none }) = some (devPending 1 0x2A80 .none) := by
  decide
theorem test_sp : devOf (exec .sp { stD with dev := devPending 1 0x0019 .th }) = some (devPending 1 0x0019 .th) := by
  decide
-- V-T8: the first byte of an image is its high byte, the second its low byte
theorem test_rq : emittedOf (exec .rq { stD with dev := devPending 2 0x2A80 .none }) = some [0x2A] := by decide
theorem test_rc : emittedOf (exec .rc { stD with dev := devPending 1 0x2A80 .none }) = some [0x80] := by decide
-- R167: some byte is emitted and the block is unchanged
theorem test_rpe : devOf (exec .rpe stD) = some devD ∧ (emittedOf (exec .rpe stD)).map List.length = some 1 := by decide

end TransferVectors

section HostVectors

-- V-A1
theorem test_amb_converting :
    devOf (exec (.amb 9500) { stD with dev := { devD with
      thresholdLow := 0x0A00, config := 0, convertingContinuously := true } }) =
    some { devD with thresholdLow := 0x0A00, config := 0x20, convertingContinuously := true,
                     storedTemperature := 9500, measuredTemperature := 9500 } := by decide
-- V-A2
theorem test_amb_idle : devOf (exec (.amb 50000) State.reset) =
    some { State.reset.dev with storedTemperature := 50000 } := by decide
-- V-A5, V-E20 to V-E23
theorem test_pinq : answersOf (exec .pinq State.reset) = some [.pinLevel true] ∧
    [(false, 0), (true, 0), (false, 2), (true, 2)].map
      (fun x => pinLevel { devD with outputPinActive := x.1, config := x.2 }) = [true, false, false, true] := by decide
-- V-A6: CONFIG raw is 0x00 while Access Config shows 0x08
theorem test_cfgq : answersOf (exec .cfgq State.reset) = some [.rawConfig 0x00] := by decide
-- TH first
theorem test_thrq : answersOf (exec .thrq stD) = some [.thresholds 0x1900 0xFF80] := by decide

-- V-E1, V-E6, V-E7, V-E8, V-E9, V-E11, V-E12, V-E16
theorem test_reEval :
    [(0x1900#16, 0x0A00#16, 25000#32, false), (0x1900#16, 0x0A00#16, 10000#32, true),
      (0x1900#16, 0x0A00#16, 9999#32, true), (0x1900#16, 0x0A00#16, 15000#32, true),
      (0x0A00#16, 0x1900#16, 15000#32, true), (0#16, 0#16, 0#32, false), (0#16, 0#16, -1#32, true),
      (0x8000#16, 0x7F80#16, 0#32, true)].map (fun x =>
        let d := reEval x.2.2.1 { devD with
          config := 0, thresholdHigh := x.1, thresholdLow := x.2.1, outputPinActive := x.2.2.2 }
        (d.config, d.outputPinActive)) =
    [(0x40#8, true), (0x20#8, true), (0x20#8, false), (0x00#8, true), (0x60#8, false), (0x60#8, true),
      (0x20#8, false), (0x60#8, false)] := by decide

end HostVectors

section Reset

/-- The machine in state `D` with `T` between two bytes of a read, about to run a lifecycle operation. -/
def lifecycleNext (o : LifecycleOp) : State :=
  { stD with
    dev := devPending 1 0x2A80 .none, emitted := [0x2A], tQueue := [.byteRequested], lQueue := [o],
    schedule := [.lifecycle, .transport] }

-- V-R1
theorem test_reset : State.reset.dev = { devD with
    storedTemperature := 21000, measuredTemperature := 0, thresholdHigh := 0, thresholdLow := 0, config := 0 } := by
  decide
-- R220: attach resets the block, and emits nothing
theorem test_step_attach :
    stateOf (step (lifecycleNext .attach)) =
      some { State.reset with emitted := [0x2A], tQueue := [.byteRequested], schedule := [.transport] } := by decide
-- R221: detach leaves no instance; the operation that follows is refused
theorem test_step_detach :
    ∃ t, step (lifecycleNext .detach) = .next t ∧ t.attached = false ∧ t.emitted = [0x2A] ∧
      step t = .refused .notAttached := ⟨_, rfl, rfl, rfl, rfl⟩
-- log 11: a detach with no instance completes and leaves none
theorem test_step_detach_twice :
    ∃ t, step { lifecycleNext .detach with attached := false } = .next t ∧ t.attached = false := ⟨_, rfl, rfl⟩
-- R226: SC.2 by T's next turn, AM.2 by A's
theorem test_step_resume :
    devOf (step { splitWith devD with tLocal := .startSampled 30000, schedule := [.transport] }) =
      some (reEval 30000 devD) ∧
    stateOf (step { splitWith devD with aLocal := .stored 5, schedule := [.ambient] }) =
      some { splitWith devD with aLocal := .tested 5 false } := by decide
-- With nothing scheduled the machine waits
theorem test_idle_step : devOf (step State.reset) = some State.reset.dev := by decide

end Reset

section Witnesses

theorem witness_StartConvertInOneStep :
    State.reset.params.atomicity = .event ∧ State.reset.dev.config.getLsbD 0 = false ∧
    ({ stD with dev := { devD with config := 0x03 } } : State).params.atomicity = .event ∧
    ({ devD with config := 0x03 } : DeviceState).config.getLsbD 0 = true := by decide

theorem witness_StartConvertSubSteps :
    (splitWith devD).params.atomicity = .split ∧
    ({ splitWith devD with tLocal := .startSampled 21000 } : State).tLocal = .startSampled 21000 ∧
    ({ splitWith devD with tLocal := .startReevaluated } : State).tLocal = .startReevaluated ∧
    devD.config.getLsbD 0 = false ∧ ({ devD with config := 0x03 } : DeviceState).config.getLsbD 0 = true := by decide

theorem witness_UnknownCommandIsAbsorbed :
    stD.dev.pendingByteCount = 0 ∧ stD.dev.writeTarget = .none := by decide

theorem witness_WrittenCommandByteDispatches :
    stD.dev.pendingByteCount = 0 ∧ stD.params.commands.Distinct ∧ (0x00 : Byte) ∉ stD.params.commands.toList ∧
    (0xFF : Byte) ∉ stD.params.commands.toList := by decide

theorem witness_DataByteIsAssembled :
    (devPending 2 0x1900 .th).pendingByteCount ≠ 0 ∧ (devPending 2 0x1900 .th).pendingByteCount ≠ 1 := by decide

theorem witness_LastDataByteWithoutThreshold :
    (devPending 1 0x000A .config).pendingByteCount = 1 ∧ (devPending 1 0x000A .config).writeTarget = .config ∧
    (devPending 1 0x2A80 .none).pendingByteCount = 1 ∧ (devPending 1 0x2A80 .none).writeTarget = .none := by decide

theorem witness_LastThresholdByteInOneStep :
    ∃ (s s' : State) (b : Byte) (d d' : DeviceState),
      (s.params.atomicity = .event ∧ s.dev.pendingByteCount = 1 ∧ s.dev.convertingContinuously = true ∧
        s.dev.writeTarget = .th ∧ d = { s.dev with
          transferBuffer := (s.dev.transferBuffer <<< 8) ||| b.setWidth 16, pendingByteCount := 0,
          writeTarget := .none, thresholdHigh := (s.dev.transferBuffer <<< 8) ||| b.setWidth 16 }) ∧
      (s'.params.atomicity = .event ∧ s'.dev.pendingByteCount = 1 ∧ s'.dev.convertingContinuously = false ∧
        s'.dev.writeTarget = .tl ∧ d' = { s'.dev with
          transferBuffer := (s'.dev.transferBuffer <<< 8) ||| b.setWidth 16, pendingByteCount := 0,
          writeTarget := .none, thresholdLow := (s'.dev.transferBuffer <<< 8) ||| b.setWidth 16 }) :=
  ⟨{ stD with dev := { devPending 1 0x0014 .th with convertingContinuously := true } },
    { stD with dev := devPending 1 0x0014 .tl }, 0, _, _, ⟨rfl, rfl, rfl, rfl, rfl⟩, ⟨rfl, rfl, rfl, rfl, rfl⟩⟩

theorem witness_ThresholdWriteSubSteps :
    (splitWith (devPending 1 0x0014 .th)).params.atomicity = .split ∧
    (splitWith (devPending 1 0x0014 .th)).dev.pendingByteCount = 1 ∧
    (splitWith (devPending 1 0x0014 .th)).dev.writeTarget = .th ∧
    (splitWith (devPending 1 0x0014 .tl)).dev.pendingByteCount = 1 ∧
    (splitWith (devPending 1 0x0014 .tl)).dev.writeTarget = .tl ∧
    ({ stD with tLocal := .thresholdStored true } : State).tLocal = .thresholdStored true ∧
    ({ stD with tLocal := .thresholdStored false } : State).tLocal = .thresholdStored false ∧
    ({ stD with tLocal := .thresholdSampled (some 7) } : State).tLocal = .thresholdSampled (some 7) ∧
    ({ stD with tLocal := .thresholdSampled none } : State).tLocal = .thresholdSampled none := by decide

theorem witness_PendingReadEmitsNextByte :
    (devPending 1 0x2A80 .none).pendingByteCount = 1 ∧ (devPending 2 0x2A80 .none).pendingByteCount = 2 := by decide

theorem witness_ReadPastEndEmitsFreeByte : stD.dev.pendingByteCount = 0 ∧ Instr.rpe = .rpe := by decide

theorem witness_ThresholdReadsBackAsWritten :
    stD.params.atomicity = .event ∧ stD.params.commands.Distinct := by decide

theorem witness_ShortThresholdWriteStoresNothing : Instr.accth = .accth ∧ Instr.acctl = .acctl := by decide

theorem witness_AmbientUpdateInOneStep :
    stD.params.atomicity = .event ∧ stD.dev.convertingContinuously = false ∧
    ({ devD with convertingContinuously := true } : DeviceState).convertingContinuously = true := by decide

theorem witness_AmbientUpdateSubSteps :
    (splitWith devD).params.atomicity = .split ∧
    ({ splitWith devD with aLocal := .stored 5 } : State).aLocal = .stored 5 ∧
    ({ splitWith devD with aLocal := .tested 5 true } : State).aLocal = .tested 5 true ∧
    ({ splitWith devD with aLocal := .tested 5 false } : State).aLocal = .tested 5 false := by decide

theorem witness_DiagnosticReadsCommute : Instr.pinq = .pinq ∧ Instr.start.agent ≠ .diagnostic := by decide

-- each case of R141's table is met: bounds 25000 over 10000, and inverted for the third
theorem witness_ReEvaluationCaseTable :
    let d : DeviceState := { devD with thresholdLow := 0x0A00 }
    let e : DeviceState := { devD with thresholdHigh := 0x0A00, thresholdLow := 0x1900 }
    let f : DeviceState := { devD with thresholdHigh := 0x1900, thresholdLow := 0x1900 }
    decodeNativeToMilli d.thresholdHigh = 25000 ∧ decodeNativeToMilli d.thresholdLow = 10000 ∧
    decodeNativeToMilli e.thresholdHigh = 10000 ∧ decodeNativeToMilli e.thresholdLow = 25000 ∧
    decodeNativeToMilli f.thresholdHigh = 25000 ∧ decodeNativeToMilli f.thresholdLow = 25000 ∧
    (25000#32).toInt = 25000 ∧ (24999#32).toInt = 24999 ∧ (10000#32).toInt = 10000 ∧ (9999#32).toInt = 9999 := by
  decide

theorem witness_FlagsClearedOnlyByConfigWrite :
    ∃ t, step (writing 0x00 { devPending 1 0x0068 .config with config := 0x60 }) = .next t ∧
      highFlag (0x60 : Byte) = true ∧ highFlag t.dev.config = false ∧
      lowFlag (0x60 : Byte) = true ∧ lowFlag t.dev.config = false := ⟨_, rfl, by decide⟩

theorem witness_MeasuredChangesOnlyAtCallSites :
    ∃ t, step (writing 0xEE devD) = .next t ∧ t.dev.measuredTemperature ≠ devD.measuredTemperature :=
  ⟨_, rfl, by decide⟩

theorem witness_AmbientSweepSetsFlagsAtTheBound :
    ({ stD with dev := { devD with convertingContinuously := true } } : State).params.atomicity = .event ∧
    ({ devD with convertingContinuously := true } : DeviceState).convertingContinuously = true := by decide

-- the hypothesis of EncodeThenDecodeIsWithin250 and CounterAndSlopeRecoverTemperature, at the two ends of the range
theorem witness_Representable :
    Representable (127749#32).toInt ∧ Representable (BitVec.ofInt 32 (-128249)).toInt := by
  unfold Representable; decide

-- a tie of R109
theorem witness_tie : (250#32).toInt % 500 = 250 ∧ Representable (250#32).toInt := by
  unfold Representable; decide

theorem witness_EveryInstructionCompletes :
    let s : State := { State.reset with lQueue := [.detach], schedule := [.lifecycle] }
    s.params.commands.Distinct ∧ s.activity = .lifecycle .detach ∧ Instr.rdata = .rdata := by decide

theorem witness_AttachGivesPowerOnDefaults :
    State.reset = State.attachedWith Config.default ∧ State.attach stD = State.attach stD := by decide

theorem witness_StepStopsOnlyByRefusal :
    ¬ ({ Config.default with commands := equalBytes } : Config).commands.Distinct ∧
    (writing 0 devD).params.commands.Distinct ∧
    (writing 0 devD).activity = .issue (.transport (.byteWritten 0)) ∧ (writing 0 devD).attached = true ∧
    ({ writing 0 devD with attached := false } : State).attached = false := by decide

theorem witness_StepRunsDecodedOperation :
    (writing 0xA1 devD).params.commands.Distinct ∧ (writing 0xA1 devD).attached = true ∧
    (writing 0xA1 devD).activity = .issue (.transport (.byteWritten 0xA1)) ∧ stD.activity = .wait ∧
    ({ splitWith devD with tLocal := .startReevaluated, schedule := [.transport] } : State).activity =
      .resumeTransport ∧
    ({ splitWith devD with aLocal := .stored 5, schedule := [.ambient] } : State).activity = .resumeAmbient ∧
    (lifecycleNext .attach).activity = .lifecycle .attach ∧ (lifecycleNext .detach).activity = .lifecycle .detach := by
  decide

theorem witness_AttachTakesParameterValues :
    (lifecycleNext .attach).params = Config.default ∧ Config.default.commands.Distinct ∧
    (lifecycleNext .attach).activity = .lifecycle .attach ∧ (lifecycleNext .detach).activity = .lifecycle .detach := by
  decide

-- each agent with an empty queue is stD with that agent scheduled; each unfinished operation is above
theorem witness_ScheduledAgentMovesNext :
    stD.schedule = [] ∧ (writing 7 devD).schedule = [.transport] ∧ (writing 7 devD).tLocal = .idle ∧
    (writing 7 devD).tQueue = [.byteWritten 7] ∧
    ({ stD with aQueue := [5], hQueue := [.thresholds], schedule := [.ambient] } : State).aQueue = [5] ∧
    ({ stD with hQueue := [.thresholds], schedule := [.diagnostic] } : State).hQueue = [.thresholds] ∧
    (lifecycleNext .detach).schedule = [.lifecycle, .transport] ∧ (lifecycleNext .detach).lQueue = [.detach] := by
  decide

theorem witness_StepKeepsTransferInvariant :
    State.reset.Inv ∧ ∃ t, step State.reset = .next t :=
  ⟨⟨⟨by decide, fun _ => rfl, fun h => absurd h (by decide)⟩, fun _ => ⟨rfl, rfl⟩, fun h => absurd rfl h,
    fun _ h => TransportLocal.noConfusion h, fun _ h => TransportLocal.noConfusion h,
    fun _ h => AmbientLocal.noConfusion h, fun _ _ h => AmbientLocal.noConfusion h⟩, _, rfl⟩

theorem witness_StepKeepsParameters : ∃ t, step (writing 0xA1 devD) = .next t := ⟨_, rfl⟩

theorem witness_NothingSurvivesDetach : stD.params = State.reset.params ∧ stD.dev ≠ State.reset.dev := by decide

theorem witness_DecodeOfEncodeIsTheInstruction :
    CommandBytes.default.Distinct ∧ Instr.wf .default (.unknown 0xFF) = true ∧
    Instr.fitsPending 0 (.unknown 0xFF) = true ∧ Instr.isEvent (.unknown 0xFF) = false ∧
    Instr.wf .default (.wdata 0xA1) = true ∧ Instr.fitsPending 2 (.wdata 0xA1) = true ∧
    Instr.wf .default (.wb 0xA1) = true ∧ Instr.fitsPending 2 (.wb 0xA1) = true ∧
    Instr.isEvent (.wb 0xA1) = true := by decide

theorem witness_UninterruptedSubStepsAreOneEvent :
    (splitWith (devPending 1 0x0014 .th)).params.atomicity = .split ∧
    (splitWith (devPending 1 0x0014 .th)).tLocal = .idle ∧ (splitWith (devPending 1 0x0014 .th)).aLocal = .idle ∧
    (splitWith (devPending 1 0x0014 .th)).dev.pendingByteCount = 1 ∧
    (splitWith (devPending 1 0x0014 .th)).dev.writeTarget = .th ∧
    (splitWith (devPending 1 0x0014 .tl)).dev.writeTarget = .tl := by decide

theorem witness_EventRunsAreSplitRuns :
    ∃ t, (writing 0xEE devD).params.atomicity = .event ∧ (writing 0xEE devD).tLocal = .idle ∧
      (writing 0xEE devD).aLocal = .idle ∧ Host.Core.run Sys2Proof.core 1 (writing 0xEE devD) = .next t :=
  ⟨_, rfl, rfl, rfl, rfl⟩

-- V-H1's start: T issues START while A sets 30000
theorem witness_AmbientUpdateLostByRacingStart :
    let s : State := { splitWith devD with
      tQueue := [.byteWritten 0xEE], aQueue := [30000],
      schedule := [.transport, .ambient, .ambient, .ambient, .transport, .transport] }
    s.params.commands.Distinct ∧ s.attached = true ∧ s.params.atomicity = .split ∧ s.tLocal = .idle ∧
    s.aLocal = .idle ∧ s.dev.pendingByteCount = 0 ∧ s.dev.convertingContinuously = false ∧
    oneShot s.dev.config = false ∧ s.tQueue = [.byteWritten s.params.commands.startConvert] ∧
    s.aQueue = [30000] ∧
    s.schedule = [.transport, .ambient, .ambient, .ambient, .transport, .transport] := by decide

-- V-H2's start, at the last byte of the TH write
theorem witness_ThresholdWriteRestoresStaleMeasured :
    let s : State := { splitWith { devPending 1 0x0019 .th with convertingContinuously := true } with
      tQueue := [.byteWritten 0], aQueue := [30000],
      schedule := [.transport, .transport, .ambient, .ambient, .ambient, .transport] }
    s.params.commands.Distinct ∧ s.attached = true ∧ s.params.atomicity = .split ∧ s.tLocal = .idle ∧
    s.aLocal = .idle ∧ s.dev.pendingByteCount = 1 ∧ s.dev.writeTarget = .th ∧
    s.dev.convertingContinuously = true ∧ s.tQueue = [.byteWritten 0] ∧ s.aQueue = [30000] ∧
    s.schedule = [.transport, .transport, .ambient, .ambient, .ambient, .transport] := by decide

theorem witness_EventNeverLosesAmbientUpdate :
    stD.params.atomicity = .event ∧ oneShot stD.dev.config = false := by decide

end Witnesses

end Sys2Proof.Tests
end

section
/-! The commands that only write the block's record (41_commands.md R121-R126, R128): first what each operation they
share stores, then what each command row answers, then the obligations. -/

namespace Sys2Proof.Machine

/-! ### What the shared operations store -/

/-- Selecting a register writes the three fields of the transfer scratch. -/
theorem select_eq (count : Byte) (image : U16) (target : WriteTarget) (d : DeviceState) :
    d.select count image target =
      { d with pendingByteCount := count, transferBuffer := image, writeTarget := target } := rfl

theorem byteImage_eq (b : Byte) : byteImage b = b.setWidth 16 := rfl

/-- Bit 3 is forced before the byte is widened, so the image's high byte stays 0. -/
theorem accessConfigImage_eq (config : Byte) : accessConfigImage config = (config ||| 0x08#8).setWidth 16 := by
  rw [accessConfigImage, byteImage_eq]

@[simp] theorem extendedResolutionRegisters_roundedNative (milli : I32) :
    (extendedResolutionRegisters milli).roundedNative = encodeMilliToRoundedNative milli := rfl

/-- R106: the slope does not depend on the temperature. -/
@[simp] theorem extendedResolutionRegisters_slope (milli : I32) :
    (extendedResolutionRegisters milli).slope = 255#8 := rfl

/-- R126 on the record: the slope is the constant, and the image read out is the codec's. -/
theorem readTemperature_eq (d : DeviceState) :
    d.readTemperature = { d with
      readCounter := (extendedResolutionRegisters d.measuredTemperature).counter, readSlope := 255#8,
      pendingByteCount := 2#8, transferBuffer := encodeMilliToRoundedNative d.measuredTemperature,
      writeTarget := .none } := by
  simp only [DeviceState.readTemperature, select_eq, extendedResolutionRegisters_roundedNative,
    extendedResolutionRegisters_slope]

/-! ### What each command row answers -/

section
variable (s : State)

theorem exec_accth : exec .accth s = .next { s with dev := s.dev.select 2#8 s.dev.thresholdHigh .th } := rfl

theorem exec_acctl : exec .acctl s = .next { s with dev := s.dev.select 2#8 s.dev.thresholdLow .tl } := rfl

theorem exec_acccfg :
    exec .acccfg s = .next { s with dev := s.dev.select 1#8 (accessConfigImage s.dev.config) .config } := rfl

theorem exec_rdcnt :
    exec .rdcnt s = .next { s with dev := s.dev.select 1#8 (byteImage s.dev.readCounter) .none } := rfl

theorem exec_rdslp :
    exec .rdslp s = .next { s with dev := s.dev.select 1#8 (byteImage s.dev.readSlope) .none } := rfl

theorem exec_rdtemp : exec .rdtemp s = .next { s with dev := s.dev.readTemperature } := rfl

theorem exec_stop :
    exec .stop s = .next { s with dev := { s.dev with convertingContinuously := false } } := rfl

end

/-! ### The obligations -/

/-- Settles O1: the row selects TH, and a selection writes the transfer scratch only. -/
theorem accessThSelectsTh : Obligations.AccessThSelectsTh := by
  intro s
  rw [exec_accth, select_eq]

/-- Settles O2: the row selects TL, and a selection writes the transfer scratch only. -/
theorem accessTlSelectsTl : Obligations.AccessTlSelectsTl := by
  intro s
  rw [exec_acctl, select_eq]

/-- Settles O3: bit 3 is forced in the image selected, so CONFIG itself is among the fields left alone. -/
theorem accessConfigSelectsConfig : Obligations.AccessConfigSelectsConfig := by
  intro s
  rw [exec_acccfg, select_eq, accessConfigImage_eq]

/-- Settles O4: the row selects the counter's byte image, with no target. -/
theorem readCounterSelectsCounter : Obligations.ReadCounterSelectsCounter := by
  intro s
  rw [exec_rdcnt, select_eq, byteImage_eq]

/-- Settles O5: the row selects the slope's byte image, with no target. -/
theorem readSlopeSelectsSlope : Obligations.ReadSlopeSelectsSlope := by
  intro s
  rw [exec_rdslp, select_eq, byteImage_eq]

/-- Settles O6: the two registers and the image come from one codec triple, whose slope is the constant 255. -/
theorem readTemperatureLoadsImage : Obligations.ReadTemperatureLoadsImage := by
  intro s
  rw [exec_rdtemp, readTemperature_eq]

/-- Settles O9: the row writes no field but `convertingContinuously`. -/
theorem stopConvertEndsContinuous : Obligations.StopConvertEndsContinuous :=
  fun s => exec_stop s

end Sys2Proof.Machine
end

section
/-! The re-evaluation unit (42_reeval.md R140): each of the three tests as one update of the record, then the unit as
their composition. No test writes a threshold or the measured value, so all three read the same bounds and the same
value, and the third test, which runs last, decides the pin. -/

namespace Sys2Proof.Machine

/-! ### What each test stores -/

theorem testHigh_eq (m : I32) (d : DeviceState) :
    testHigh m d = { d with
      config := d.config ||| (if d.highBound ≤ m.toInt then 0x40#8 else 0#8),
      outputPinActive := if d.highBound ≤ m.toInt then true else d.outputPinActive } := by
  by_cases h : d.highBound ≤ m.toInt
  · simp only [testHigh, setHighFlag, if_pos h]
  · simp only [testHigh, if_neg h, BitVec.or_zero]

theorem testLow_eq (m : I32) (d : DeviceState) :
    testLow m d = { d with config := d.config ||| (if m.toInt ≤ d.lowBound then 0x20#8 else 0#8) } := by
  by_cases h : m.toInt ≤ d.lowBound
  · simp only [testLow, setLowFlag, if_pos h]
  · simp only [testLow, if_neg h, BitVec.or_zero]

theorem testBelowLow_eq (m : I32) (d : DeviceState) :
    testBelowLow m d =
      { d with outputPinActive := if m.toInt < d.lowBound then false else d.outputPinActive } := by
  by_cases h : m.toInt < d.lowBound
  · simp only [testBelowLow, if_pos h]
  · simp only [testBelowLow, if_neg h]

/-! ### The obligation -/

/-- Settles O31: the three updates in the order written, with both bounds read from the thresholds they all keep. -/
theorem reEvaluationTestsBothBounds : Obligations.ReEvaluationTestsBothBounds := by
  intro m d
  rw [reEval, testHigh_eq, testLow_eq, testBelowLow_eq]
  rfl

end Sys2Proof.Machine
end

section
/-! The read side of the transport events (43_transfer.md R165, R166, R168): first what each event answers, then the
obligations. Both read operations answer through one shared operation, `State.readByte`, at every pending count. -/

namespace Sys2Proof.Machine

/-! ### What each read event answers -/

section
variable (s : State)

theorem exec_rs : exec .rs s = .next s := rfl

theorem exec_rq : exec .rq s = .next s.readByte := rfl

theorem exec_rc : exec .rc s = .next s.readByte := rfl

end

/-! ### The obligations -/

/-- Settles O19: `State.readByte` is the one next state, and it takes R166's or R167's branch for both operations. -/
theorem byteConsumedActsAsByteRequested : Obligations.ByteConsumedActsAsByteRequested :=
  fun s => ⟨s.readByte, exec_rc s, exec_rq s⟩

/-- Settles O21: a read-stream start answers the state it was given. -/
theorem readStreamStartChangesNothing : Obligations.ReadStreamStartChangesNothing :=
  fun s => exec_rs s

end Sys2Proof.Machine
end

section
/-! No operation fails (60_exceptions.md R200): first that every row completes, then that a read row emits one byte, then
the step's lifecycle moves, then the obligation. Every row but the two that take a written byte answers a next state as
it is written; a written byte is a data byte or one of the nine command rows. -/

namespace Sys2Proof.Machine

/-! ### Every row completes -/

/-- A dispatched byte runs one of the nine command rows, and each of them completes. -/
theorem dispatchByte_completes (b : Byte) (s : State) : ∃ t, dispatchByte b s = .next t := by
  rw [dispatchByte_eq_exec]
  rcases decodeCommand_cases s.params.commands b with
      ⟨h, -⟩ | ⟨h, -⟩ | ⟨h, -⟩ | ⟨h, -⟩ | ⟨h, -⟩ | ⟨h, -⟩ | ⟨h, -⟩ | ⟨h, -⟩ | ⟨h, -⟩ <;>
    exact h ▸ ⟨_, rfl⟩

theorem exec_wb (b : Byte) (s : State) :
    exec (.wb b) s = if s.dev.pendingByteCount = 0#8 then dispatchByte b s else .next (s.dataByte b) := rfl

/-- `WDATA` acts as `WB` at every pending count (log 9). -/
theorem exec_wdata_eq_wb (b : Byte) (s : State) : exec (.wdata b) s = exec (.wb b) s := rfl

/-- A written byte is a command or a data byte, and completes as either. -/
theorem exec_wb_completes (b : Byte) (s : State) : ∃ t, exec (.wb b) s = .next t := by
  rw [exec_wb]
  by_cases hp : s.dev.pendingByteCount = 0#8
  · rw [if_pos hp]
    exact dispatchByte_completes b s
  · exact ⟨s.dataByte b, if_neg hp⟩

theorem exec_completes (i : Instr) (s : State) : ∃ t, exec i s = .next t := by
  cases i with
  | wb b => exact exec_wb_completes b s
  | wdata b => exact exec_wdata_eq_wb b s ▸ exec_wb_completes b s
  | _ => exact ⟨_, rfl⟩

/-! ### A read row emits one byte -/

theorem exec_rdata (s : State) : exec .rdata s = .next s.readByte := rfl

theorem exec_rpe (s : State) : exec .rpe s = .next s.readPastEnd := rfl

/-- The byte is the drawn one with nothing pending (R167), and the buffer's next one otherwise (R166). -/
theorem readByte_emits_one_byte (s : State) : ∃ b, s.readByte.emitted = s.emitted ++ [b] := by
  rcases readByte_cases s with ⟨-, h⟩ | ⟨-, h⟩
  · exact ⟨_, h ▸ readPastEnd_emitted s⟩
  · exact ⟨_, congrArg State.emitted h⟩

theorem exec_read_emits_one_byte {i : Instr} {s t : State} (hi : i = .rdata ∨ i = .rq ∨ i = .rc ∨ i = .rpe)
    (h : exec i s = .next t) : ∃ b, t.emitted = s.emitted ++ [b] := by
  rcases hi with rfl | rfl | rfl | rfl
  · cases (exec_rdata s).symm.trans h
    exact readByte_emits_one_byte s
  · cases (exec_rq s).symm.trans h
    exact readByte_emits_one_byte s
  · cases (exec_rc s).symm.trans h
    exact readByte_emits_one_byte s
  · cases (exec_rpe s).symm.trans h
    exact ⟨_, readPastEnd_emitted s⟩

/-! ### A lifecycle move of the step -/

theorem step_of_lifecycle {s : State} {o : LifecycleOp} (hd : s.params.commands.Distinct)
    (ha : s.activity = .lifecycle o) : step s = .next (s.endTurn.dequeueLifecycle.lifecycle o) := by
  rw [step, if_pos hd, ha]

/-! ### The obligation -/

/-- Settles O43: completion of every row, the byte of a read row, the lifecycle move of the step; and there is no fault to
answer, as `Fault` is empty (R200's empty cause table). -/
theorem everyInstructionCompletes : Obligations.EveryInstructionCompletes := by
  refine ⟨fun i s => ?_, fun s o hd ha => ⟨_, step_of_lifecycle hd ha⟩, fun _ f => nomatch f⟩
  obtain ⟨t, ht⟩ := exec_completes i s
  exact ⟨t, ht, fun hi => exec_read_emits_one_byte hi ht⟩

end Sys2Proof.Machine
end

section
/-! Command bytes (30_encoding.md R71-R80): with distinct command bytes each byte decodes to its own command, so encoding
an instruction and decoding the operation gives the instruction back, and what the decoder answers fits the condition it
was decoded under. -/

namespace Sys2Proof

/-! ### Each command byte decodes to its command -/

/-- The command rows and the byte each is called by (R73). -/
def CommandBytes.rows (c : CommandBytes) : List (Instr × Byte) :=
  [(.accth, c.accessTh), (.acctl, c.accessTl), (.acccfg, c.accessConfig), (.rdcnt, c.readCounter),
    (.rdslp, c.readSlope), (.rdtemp, c.readTemperature), (.start, c.startConvert), (.stop, c.stopConvert)]

/-- R80: the eight comparisons of R120 exclude each other. -/
theorem decodeCommand_of_mem_rows {c : CommandBytes} (hc : c.Distinct) {i : Instr} {b : Byte}
    (h : (i, b) ∈ c.rows) : decodeCommand c b = i := by
  simp only [CommandBytes.Distinct, CommandBytes.toList, List.nodup_cons, List.mem_cons, not_or] at hc
  simp only [CommandBytes.rows, List.mem_cons, Prod.mk.injEq, List.not_mem_nil, or_false] at h
  rcases h with
      ⟨rfl, rfl⟩ | ⟨rfl, rfl⟩ | ⟨rfl, rfl⟩ | ⟨rfl, rfl⟩ | ⟨rfl, rfl⟩ | ⟨rfl, rfl⟩ | ⟨rfl, rfl⟩ | ⟨rfl, rfl⟩ <;>
    simp [decodeCommand, Ne.symm, hc]

theorem decodeCommand_of_not_mem {c : CommandBytes} {b : Byte} (h : b ∉ c.toList) :
    decodeCommand c b = .unknown b := by
  simp only [CommandBytes.toList, List.mem_cons, not_or] at h
  simp [decodeCommand, h]

theorem decodeWritten_zero (c : CommandBytes) (b : Byte) : decodeWritten c 0#8 b = decodeCommand c b := if_pos rfl

theorem decodeWritten_of_ne {p : Byte} (hp : p ≠ 0#8) (c : CommandBytes) (b : Byte) :
    decodeWritten c p b = .wdata b := if_neg hp

theorem decodeRead_zero : decodeRead 0#8 = .rpe := if_pos rfl

theorem decodeRead_of_ne {p : Byte} (hp : p ≠ 0#8) : decodeRead p = .rdata := if_neg hp

/-! ### Encoding, then decoding -/

/-- An event is named by its operation alone, whatever pending is (R81). -/
theorem eventOfOperation_encode (c : CommandBytes) {i : Instr} (hi : i.isEvent = true) :
    eventOfOperation (encode c i) = i := by
  cases i with
  | ws | wb _ | rs | rq | rc | sp | amb _ | pinq | cfgq | thrq => rfl
  | _ => cases hi

/-- A byte format is decided by pending (R71, R79), and among the commands by the byte (R120). -/
theorem decodeOperation_encode {c : CommandBytes} {p : Byte} {i : Instr} (hc : c.Distinct) (hw : i.wf c = true)
    (hp : i.fitsPending p = true) (hi : i.isEvent = false) : decodeOperation c p (encode c i) = i := by
  have command : ∀ {b : Byte}, (i, b) ∈ c.rows → p = 0#8 → decodeWritten c p b = i := fun hb h0 =>
    h0 ▸ (decodeWritten_zero c _).trans (decodeCommand_of_mem_rows hc hb)
  cases i with
  | accth | acctl | acccfg | rdcnt | rdslp | rdtemp | start | stop =>
    exact command (by simp [CommandBytes.rows]) (of_decide_eq_true hp)
  | unknown b =>
    have hb : b ∉ c.toList := by simpa [Instr.wf] using hw
    have h0 : p = 0#8 := of_decide_eq_true hp
    exact h0 ▸ (decodeWritten_zero c b).trans (decodeCommand_of_not_mem hb)
  | wdata d => exact decodeWritten_of_ne (of_decide_eq_true hp) c d
  | rdata => exact decodeRead_of_ne (of_decide_eq_true hp)
  | rpe => exact (of_decide_eq_true hp : p = 0#8) ▸ decodeRead_zero
  | _ => cases hi

/-! ### What the decoder answers -/

theorem decodeCommand_agent (c : CommandBytes) (b : Byte) : (decodeCommand c b).agent = .transport := by
  rcases decodeCommand_cases c b with
      ⟨h, -⟩ | ⟨h, -⟩ | ⟨h, -⟩ | ⟨h, -⟩ | ⟨h, -⟩ | ⟨h, -⟩ | ⟨h, -⟩ | ⟨h, -⟩ | ⟨h, -⟩ <;> rw [h] <;> rfl

theorem decodeWritten_agent (c : CommandBytes) (p b : Byte) : (decodeWritten c p b).agent = .transport := by
  rcases decodeWritten_cases c p b with ⟨-, h⟩ | ⟨-, h⟩ <;> rw [h]
  · exact decodeCommand_agent c b
  · rfl

theorem decodeRead_agent (p : Byte) : (decodeRead p).agent = .transport := by
  rcases decodeRead_cases p with ⟨-, h⟩ | ⟨-, h⟩ <;> rw [h] <;> rfl

/-- Decoding keeps an operation on its own interface (R4, R5). -/
theorem decodeOperation_agent (c : CommandBytes) (p : Byte) (o : Operation) :
    (decodeOperation c p o).agent = o.agent := by
  cases o with
  | transport o =>
    cases o with
    | byteWritten b => exact decodeWritten_agent c p b
    | byteRequested | byteConsumed => exact decodeRead_agent p
    | _ => rfl
  | ambient v => rfl
  | diagnostic o => cases o <;> rfl

/-- The only row with a restricted operand is the unknown command, which is answered for no command byte. -/
theorem decodeCommand_wf_fits (c : CommandBytes) (b : Byte) :
    (decodeCommand c b).wf c = true ∧ (decodeCommand c b).fitsPending 0#8 = true := by
  rcases decodeCommand_cases c b with
      ⟨h, -⟩ | ⟨h, -⟩ | ⟨h, -⟩ | ⟨h, -⟩ | ⟨h, -⟩ | ⟨h, -⟩ | ⟨h, -⟩ | ⟨h, -⟩ | ⟨h, hb⟩ <;> rw [h]
  case inr.inr.inr.inr.inr.inr.inr.inr => simpa [Instr.wf, Instr.fitsPending] using hb
  all_goals exact ⟨rfl, rfl⟩

theorem decodeWritten_wf_fits (c : CommandBytes) (p b : Byte) :
    (decodeWritten c p b).wf c = true ∧ (decodeWritten c p b).fitsPending p = true := by
  rcases decodeWritten_cases c p b with ⟨rfl, h⟩ | ⟨hp, h⟩ <;> rw [h]
  · exact decodeCommand_wf_fits c b
  · exact ⟨rfl, decide_eq_true hp⟩

theorem decodeRead_wf_fits (c : CommandBytes) (p : Byte) :
    (decodeRead p).wf c = true ∧ (decodeRead p).fitsPending p = true := by
  rcases decodeRead_cases p with ⟨hp, h⟩ | ⟨hp, h⟩ <;> rw [h] <;> exact ⟨rfl, decide_eq_true hp⟩

/-- The decoder answers only well-formed instructions, under the condition of their row (R129, R71). -/
theorem decodeOperation_wf_fits (c : CommandBytes) (p : Byte) (o : Operation) :
    (decodeOperation c p o).wf c = true ∧ (decodeOperation c p o).fitsPending p = true := by
  cases o with
  | transport o =>
    cases o with
    | byteWritten b => exact decodeWritten_wf_fits c p b
    | byteRequested | byteConsumed => exact decodeRead_wf_fits c p
    | _ => exact ⟨rfl, rfl⟩
  | ambient v => exact ⟨rfl, rfl⟩
  | diagnostic o => cases o <;> exact ⟨rfl, rfl⟩

/-! ### The obligations -/

/-- Settles O54: by the instruction, through the format it has at this pending count or through its event row. -/
theorem decodeOfEncodeIsTheInstruction : Obligations.DecodeOfEncodeIsTheInstruction :=
  fun c _ _ hc hw hp => ⟨decodeOperation_encode hc hw hp, eventOfOperation_encode c⟩

/-- Settles O53: the words are closed, so the decoder evaluates on them. -/
theorem tableWordsDecode : Obligations.TableWordsDecode := by
  unfold Obligations.TableWordsDecode
  decide

end Sys2Proof
end

section
/-! What the rows do, said once: an instruction acts as the row it is in the state (`State.row`), and a row acts as one of
eleven functions on the machine. Later sections split over these actions instead of over the instructions. -/

namespace Sys2Proof

/-- The rows whose action does not depend on the state they are run in: all but the byte rows of the transport. -/
def Instr.isFixed : Instr → Bool
  | .wb _ | .wdata _ | .rdata | .rq | .rc => false
  | _ => true

end Sys2Proof

namespace Sys2Proof.Machine

/-! ### An instruction acts as its row -/

/-- With nothing pending a written byte is dispatched, otherwise it is data (R161). -/
theorem exec_decodeWritten (b : Byte) (s : State) :
    exec (decodeWritten s.params.commands s.dev.pendingByteCount b) s = exec (.wb b) s := by
  rcases decodeWritten_cases s.params.commands s.dev.pendingByteCount b with ⟨hp, h⟩ | ⟨-, h⟩ <;> rw [h]
  · rw [exec_wb, if_pos hp, dispatchByte_eq_exec]
  · exact exec_wdata_eq_wb b s

/-- With nothing pending a read goes past the end (R166, R167). -/
theorem exec_decodeRead (s : State) : exec (decodeRead s.dev.pendingByteCount) s = .next s.readByte := by
  rcases decodeRead_cases s.dev.pendingByteCount with ⟨hp, h⟩ | ⟨-, h⟩ <;> rw [h]
  · rw [exec_rpe, State.readByte, if_pos hp]
  · exact exec_rdata s

theorem exec_row (i : Instr) (s : State) : exec (s.row i) s = exec i s := by
  cases i with
  | wb b | wdata b => exact exec_decodeWritten b s
  | rdata | rq | rc => exact exec_decodeRead s
  | _ => rfl

/-- What the step runs for an operation is the row of its event (R71, R79). -/
theorem decodeOperation_eq_row (o : Operation) (s : State) :
    decodeOperation s.params.commands s.dev.pendingByteCount o = s.row (eventOfOperation o) := by
  cases o with
  | transport o => cases o <;> rfl
  | ambient v => rfl
  | diagnostic o => cases o <;> rfl

theorem exec_decodeOperation (o : Operation) (s : State) :
    exec (decodeOperation s.params.commands s.dev.pendingByteCount o) s = exec (eventOfOperation o) s := by
  rw [decodeOperation_eq_row, exec_row]

/-! ### What a row acts as -/

/-- The function a row acts as. A selected image is a function of the block, and the target CONFIG is taken with one
byte only (R123). -/
inductive Action : Instr → (State → State) → Prop where
  | select {i : Instr} {count : Byte} {target : WriteTarget} (image : DeviceState → U16)
      (hi : i ∈ Instr.selects) (hc : count = 1#8 ∨ count = 2#8 ∧ target ≠ .config) :
      Action i fun s => { s with dev := s.dev.select count (image s.dev) target }
  | readTemperature : Action .rdtemp fun s => { s with dev := s.dev.readTemperature }
  | start : Action .start State.startConvert
  | stop : Action .stop fun s => { s with dev := { s.dev with convertingContinuously := false } }
  | abandon {i : Instr} (hi : (∃ b, i = .unknown b) ∨ i = .ws) :
      Action i fun s => { s with dev := s.dev.abandonTransfer }
  | keep {i : Instr} (hi : i = .rs ∨ i = .sp) : Action i id
  | dataByte (b : Byte) : Action (.wdata b) (State.dataByte b)
  | readByte : Action .rdata State.readByte
  | readPastEnd : Action .rpe State.readPastEnd
  | ambient (v : I32) : Action (.amb v) (State.setAmbient v)
  | answer {i : Instr} (a : DeviceState → DiagnosticAnswer) (hi : i.agent = .diagnostic) :
      Action i fun s => { s with answers := s.answers ++ [a s.dev] }

theorem action_of_isFixed {i : Instr} (hi : i.isFixed = true) :
    ∃ g, Action i g ∧ ∀ s, exec i s = .next (g s) := by
  cases i with
  | accth => exact ⟨_, .select (·.thresholdHigh) (by decide) (.inr ⟨rfl, by decide⟩), exec_accth⟩
  | acctl => exact ⟨_, .select (·.thresholdLow) (by decide) (.inr ⟨rfl, by decide⟩), exec_acctl⟩
  | acccfg => exact ⟨_, .select (accessConfigImage ·.config) (by decide) (.inl rfl), exec_acccfg⟩
  | rdcnt => exact ⟨_, .select (byteImage ·.readCounter) (by decide) (.inl rfl), exec_rdcnt⟩
  | rdslp => exact ⟨_, .select (byteImage ·.readSlope) (by decide) (.inl rfl), exec_rdslp⟩
  | rdtemp => exact ⟨_, .readTemperature, exec_rdtemp⟩
  | start => exact ⟨_, .start, fun _ => rfl⟩
  | stop => exact ⟨_, .stop, exec_stop⟩
  | unknown b => exact ⟨_, .abandon (.inl ⟨b, rfl⟩), fun _ => rfl⟩
  | ws => exact ⟨_, .abandon (.inr rfl), fun _ => rfl⟩
  | rs => exact ⟨_, .keep (.inl rfl), exec_rs⟩
  | sp => exact ⟨_, .keep (.inr rfl), fun _ => rfl⟩
  | rpe => exact ⟨_, .readPastEnd, exec_rpe⟩
  | amb v => exact ⟨_, .ambient v, fun _ => rfl⟩
  | pinq => exact ⟨_, .answer (.pinLevel <| pinLevel ·) rfl, fun _ => rfl⟩
  | cfgq => exact ⟨_, .answer (.rawConfig ·.config) rfl, fun _ => rfl⟩
  | thrq => exact ⟨_, .answer (fun d => .thresholds d.thresholdHigh d.thresholdLow) rfl, fun _ => rfl⟩
  | wb _ | wdata _ | rdata | rq | rc => cases hi

theorem decodeCommand_isFixed (c : CommandBytes) (b : Byte) : (decodeCommand c b).isFixed = true := by
  rcases decodeCommand_cases c b with
      ⟨h, -⟩ | ⟨h, -⟩ | ⟨h, -⟩ | ⟨h, -⟩ | ⟨h, -⟩ | ⟨h, -⟩ | ⟨h, -⟩ | ⟨h, -⟩ | ⟨h, -⟩ <;> rw [h] <;> rfl

/-- The byte row of the transport that a row other than the fixed ones is. -/
theorem row_isFixed_or (i : Instr) (s : State) :
    (s.row i).isFixed = true ∨
      s.dev.pendingByteCount ≠ 0#8 ∧ ((∃ b, s.row i = .wdata b) ∨ s.row i = .rdata) := by
  have written : ∀ b, (decodeWritten s.params.commands s.dev.pendingByteCount b).isFixed = true ∨
      s.dev.pendingByteCount ≠ 0#8 ∧ decodeWritten s.params.commands s.dev.pendingByteCount b = .wdata b := fun b =>
    (decodeWritten_cases s.params.commands s.dev.pendingByteCount b).imp_left
      fun ⟨_, h⟩ => h ▸ decodeCommand_isFixed s.params.commands b
  have read : (decodeRead s.dev.pendingByteCount).isFixed = true ∨
      s.dev.pendingByteCount ≠ 0#8 ∧ decodeRead s.dev.pendingByteCount = .rdata :=
    (decodeRead_cases s.dev.pendingByteCount).imp_left fun ⟨_, h⟩ => h ▸ rfl
  cases i with
  | wb b | wdata b => exact (written b).imp_right fun h => ⟨h.1, .inl ⟨b, h.2⟩⟩
  | rdata | rq | rc => exact read.imp_right fun h => ⟨h.1, .inr h.2⟩
  | _ => exact .inl rfl

theorem row_of_isFixed {i : Instr} (h : i.isFixed = true) (s : State) : s.row i = i := by
  cases i with
  | wb _ | wdata _ | rdata | rq | rc => cases h
  | _ => rfl

/-- A row is its own row (R71). -/
theorem row_row (i : Instr) (s : State) : s.row (s.row i) = s.row i := by
  rcases row_isFixed_or i s with h | ⟨hp, ⟨b, h⟩ | h⟩
  · exact row_of_isFixed h s
  · rw [h]; exact decodeWritten_of_ne hp _ b
  · rw [h]; exact decodeRead_of_ne hp

/-- The row depends on the command bytes and on pending alone. -/
theorem row_congr {s t : State} (hc : t.params.commands = s.params.commands)
    (hp : t.dev.pendingByteCount = s.dev.pendingByteCount) (i : Instr) : t.row i = s.row i := by
  cases i with
  | wb b | wdata b | rdata | rq | rc => simp only [State.row, hc, hp]
  | _ => rfl

/-- Every instruction acts as its row does, in every state in which it is that row. -/
theorem exec_action (i : Instr) (s : State) :
    ∃ g, Action (s.row i) g ∧ ∀ t : State, t.row i = s.row i → exec i t = .next (g t) := by
  rcases row_isFixed_or i s with h | ⟨-, ⟨b, h⟩ | h⟩
  · obtain ⟨g, hg, he⟩ := action_of_isFixed h
    exact ⟨g, hg, fun t ht => by rw [← exec_row, ht, he]⟩
  · refine ⟨State.dataByte b, h ▸ .dataByte b, fun t ht => ?_⟩
    have hp : t.dev.pendingByteCount ≠ 0#8 := by
      rcases row_isFixed_or i t with h' | h'
      · rw [ht, h] at h'; cases h'
      · exact h'.1
    rw [← exec_row, ht, h, exec_wdata_eq_wb, exec_wb, if_neg hp]
  · exact ⟨State.readByte, h ▸ .readByte, fun t ht => by rw [← exec_row, ht, h, exec_rdata]⟩

/-- The outcome of an instruction is its row's action on the state. -/
theorem action_of_exec {i : Instr} {s t : State} (h : exec i s = .next t) :
    ∃ g, Action (s.row i) g ∧ t = g s := by
  obtain ⟨g, hg, he⟩ := exec_action i s
  exact ⟨g, hg, Host.Outcome.next.inj (h.symm.trans (he s rfl))⟩

end Sys2Proof.Machine
end

section
/-! The flags and the pin after a re-evaluation (42_reeval.md R140, R142): one rule per bit of CONFIG and one for the pin. -/

namespace Sys2Proof.Machine

section
variable (m : I32) (d : DeviceState)

theorem reEval_config : (reEval m d).config =
    d.config ||| (if d.highBound ≤ m.toInt then 0x40#8 else 0#8) ||| (if m.toInt ≤ d.lowBound then 0x20#8 else 0#8) := by
  rw [reEvaluationTestsBothBounds]; rfl

theorem reEval_outputPinActive : (reEval m d).outputPinActive =
    if m.toInt < d.lowBound then false else if d.highBound ≤ m.toInt then true else d.outputPinActive := by
  rw [reEvaluationTestsBothBounds]; rfl

/-- THF is latched: it is set at the high bound and otherwise kept (R142). -/
theorem highFlag_reEval :
    highFlag (reEval m d).config = (highFlag d.config || decide (d.highBound ≤ m.toInt)) := by
  rw [reEval_config, highFlag, highFlag]
  split_ifs <;> simp [*]

/-- TLF is latched: it is set at the low bound and otherwise kept (R142). -/
theorem lowFlag_reEval :
    lowFlag (reEval m d).config = (lowFlag d.config || decide (m.toInt ≤ d.lowBound)) := by
  rw [reEval_config, lowFlag, lowFlag]
  split_ifs <;> simp [*]

@[simp] theorem oneShot_reEval : oneShot (reEval m d).config = oneShot d.config := by
  rw [reEval_config, oneShot, oneShot]
  split_ifs <;> simp

end

end Sys2Proof.Machine
end

section
/-! The rows of the transport and of the host, one at a time (41_commands.md R120-R129, 43_transfer.md R160-R169,
44_host.md R180-R183, 70_reset_and_hazards.md R225, R226): what each operation on the block stores, by the case it is in,
and then the obligations that say so row by row. -/

namespace Sys2Proof.Machine

/-! ### What each remaining row answers -/

section
variable (s : State)

theorem exec_start : exec .start s = .next s.startConvert := rfl

theorem exec_unknown (b : Byte) : exec (.unknown b) s = .next { s with dev := s.dev.abandonTransfer } := rfl

theorem exec_ws : exec .ws s = .next { s with dev := s.dev.abandonTransfer } := rfl

theorem exec_sp : exec .sp s = .next s := rfl

theorem exec_amb (v : I32) : exec (.amb v) s = .next (s.setAmbient v) := rfl

theorem exec_pinq : exec .pinq s = .next { s with answers := s.answers ++ [.pinLevel (pinLevel s.dev)] } := rfl

theorem exec_cfgq : exec .cfgq s = .next { s with answers := s.answers ++ [.rawConfig s.dev.config] } := rfl

theorem exec_thrq :
    exec .thrq s = .next { s with answers := s.answers ++ [.thresholds s.dev.thresholdHigh s.dev.thresholdLow] } := rfl

end

theorem abandonTransfer_eq (d : DeviceState) :
    d.abandonTransfer = { d with pendingByteCount := 0#8, writeTarget := .none } := rfl

/-- A byte written with nothing pending runs the command it decodes to. -/
theorem exec_wb_command {s : State} (hp : s.dev.pendingByteCount = 0#8) (b : Byte) :
    exec (.wb b) s = exec (decodeCommand s.params.commands b) s := by
  rw [exec_wb, if_pos hp, dispatchByte_eq_exec]

theorem exec_wb_data {s : State} (hp : s.dev.pendingByteCount ≠ 0#8) (b : Byte) :
    exec (.wb b) s = .next (s.dataByte b) := by
  rw [exec_wb, if_neg hp]

theorem exec_wdata_data {s : State} (hp : s.dev.pendingByteCount ≠ 0#8) (b : Byte) :
    exec (.wdata b) s = .next (s.dataByte b) :=
  exec_wb_data hp b

/-! ### Start Convert and the ambient update, by atomicity -/

theorem enterContinuous_of_not_oneShot {d : DeviceState} (h : oneShot d.config = false) :
    d.enterContinuous = { d with convertingContinuously := true } := by
  rw [DeviceState.enterContinuous, h]; rfl

theorem enterContinuous_of_oneShot {d : DeviceState} (h : oneShot d.config = true) : d.enterContinuous = d := by
  rw [DeviceState.enterContinuous, h]; rfl

theorem startConvert_event {s : State} (h : s.params.atomicity = .event) :
    s.startConvert = { s with dev := (reEval s.dev.storedTemperature s.dev).enterContinuous } := by
  rw [State.startConvert, h]

theorem startConvert_split {s : State} (h : s.params.atomicity = .split) :
    s.startConvert = { s with tLocal := .startSampled s.dev.storedTemperature } := by
  rw [State.startConvert, h]

theorem setAmbient_event {s : State} (v : I32) (h : s.params.atomicity = .event) :
    s.setAmbient v = { s with dev :=
      if s.dev.convertingContinuously then reEval v { s.dev with storedTemperature := v }
      else { s.dev with storedTemperature := v } } := by
  rw [State.setAmbient, h]

theorem setAmbient_split {s : State} (v : I32) (h : s.params.atomicity = .split) :
    s.setAmbient v = { s with dev := { s.dev with storedTemperature := v }, aLocal := .stored v } := by
  rw [State.setAmbient, h]

/-! ### The later sub-steps, by what the agent holds -/

section
variable {s : State}

theorem resumeTransport_idle (h : s.tLocal = .idle) : s.resumeTransport = s := by
  rw [State.resumeTransport, h]

theorem resumeTransport_startSampled {m : I32} (h : s.tLocal = .startSampled m) :
    s.resumeTransport = { s with dev := reEval m s.dev, tLocal := .startReevaluated } := by
  rw [State.resumeTransport, h]

theorem resumeTransport_startReevaluated (h : s.tLocal = .startReevaluated) :
    s.resumeTransport = { s with dev := s.dev.enterContinuous, tLocal := .idle } := by
  rw [State.resumeTransport, h]

theorem resumeTransport_thresholdStored {c : Bool} (h : s.tLocal = .thresholdStored c) :
    s.resumeTransport =
      { s with tLocal := .thresholdSampled (if c then some s.dev.measuredTemperature else none) } := by
  rw [State.resumeTransport, h]

theorem resumeTransport_thresholdSampled_none (h : s.tLocal = .thresholdSampled none) :
    s.resumeTransport = { s with tLocal := .idle } := by
  rw [State.resumeTransport, h]

theorem resumeTransport_thresholdSampled_some {m : I32} (h : s.tLocal = .thresholdSampled (some m)) :
    s.resumeTransport = { s with dev := reEval m s.dev, tLocal := .idle } := by
  rw [State.resumeTransport, h]

theorem resumeAmbient_idle (h : s.aLocal = .idle) : s.resumeAmbient = s := by
  rw [State.resumeAmbient, h]

theorem resumeAmbient_stored {v : I32} (h : s.aLocal = .stored v) :
    s.resumeAmbient = { s with aLocal := .tested v s.dev.convertingContinuously } := by
  rw [State.resumeAmbient, h]

theorem resumeAmbient_tested {v : I32} {c : Bool} (h : s.aLocal = .tested v c) :
    s.resumeAmbient = { s with dev := if c then reEval v s.dev else s.dev, aLocal := .idle } := by
  rw [State.resumeAmbient, h]

end

/-! ### A data byte, by the count and the target -/

theorem sub_one_eq_zero_iff {p : Byte} : p - 1#8 = 0#8 ↔ p = 1#8 := by
  constructor <;> intro h <;> bv_omega

theorem lowByte_shiftIn (w : U16) (b : Byte) : lowByte (shiftIn w b) = b := by
  apply BitVec.eq_of_getLsbD_eq
  intro i hi
  simp [lowByte, shiftIn, hi]

/-- The old high byte is shifted out (R75). -/
theorem shiftIn_eq_wordOfBytes (w : U16) (b : Byte) : shiftIn w b = wordOfBytes (lowByte w) b := by
  rw [shiftIn, wordOfBytes, lowByte]
  congr 1
  apply BitVec.eq_of_getLsbD_eq
  intro i hi
  by_cases h8 : i < 8
  · simp [h8]
  · simp [h8, show i - 8 < 8 by omega, show i - 8 < 16 by omega]

theorem takeByte_eq (b : Byte) (d : DeviceState) :
    d.takeByte b = { d with transferBuffer := shiftIn d.transferBuffer b,
                            pendingByteCount := d.pendingByteCount - 1#8 } := rfl

section
variable {d : DeviceState}

theorem writeByte_of_ne_one (h : d.pendingByteCount ≠ 1#8) (b : Byte) : d.writeByte b = d.takeByte b :=
  if_neg (mt sub_one_eq_zero_iff.1 h)

theorem writeByte_of_eq_one (h : d.pendingByteCount = 1#8) (b : Byte) : d.writeByte b = (d.takeByte b).commit :=
  if_pos (sub_one_eq_zero_iff.2 h)

theorem commit_th (h : d.writeTarget = .th) :
    d.commit = { d with thresholdHigh := d.transferBuffer, writeTarget := .none } := by
  rw [DeviceState.commit, h]

theorem commit_tl (h : d.writeTarget = .tl) :
    d.commit = { d with thresholdLow := d.transferBuffer, writeTarget := .none } := by
  rw [DeviceState.commit, h]

theorem commit_config (h : d.writeTarget = .config) :
    d.commit = { d with config := lowByte d.transferBuffer, writeTarget := .none } := by
  rw [DeviceState.commit, h]

theorem commit_none (h : d.writeTarget = .none) : d.commit = d := by
  rw [DeviceState.commit, h]

section
variable (hp : d.pendingByteCount = 1#8) (b : Byte)
include hp

theorem writeByte_th (ht : d.writeTarget = .th) :
    d.writeByte b = { d with transferBuffer := shiftIn d.transferBuffer b, pendingByteCount := 0#8,
                             writeTarget := .none, thresholdHigh := shiftIn d.transferBuffer b } := by
  rw [writeByte_of_eq_one hp, commit_th (by exact ht), takeByte_eq, sub_one_eq_zero_iff.2 hp]

theorem writeByte_tl (ht : d.writeTarget = .tl) :
    d.writeByte b = { d with transferBuffer := shiftIn d.transferBuffer b, pendingByteCount := 0#8,
                             writeTarget := .none, thresholdLow := shiftIn d.transferBuffer b } := by
  rw [writeByte_of_eq_one hp, commit_tl (by exact ht), takeByte_eq, sub_one_eq_zero_iff.2 hp]

/-- A CONFIG commit stores the byte written, whatever the buffer held (R163). -/
theorem writeByte_config (ht : d.writeTarget = .config) :
    d.writeByte b = { d with transferBuffer := shiftIn d.transferBuffer b, pendingByteCount := 0#8,
                             writeTarget := .none, config := b } := by
  rw [writeByte_of_eq_one hp, commit_config (by exact ht), takeByte_eq, sub_one_eq_zero_iff.2 hp, lowByte_shiftIn]

theorem writeByte_none (ht : d.writeTarget = .none) :
    d.writeByte b = { d with transferBuffer := shiftIn d.transferBuffer b, pendingByteCount := 0#8 } := by
  rw [writeByte_of_eq_one hp, commit_none (by exact ht), takeByte_eq, sub_one_eq_zero_iff.2 hp]

end

end

@[simp] theorem writeByte_convertingContinuously (b : Byte) (d : DeviceState) :
    (d.writeByte b).convertingContinuously = d.convertingContinuously := by
  rcases writeByte_cases b d with ⟨-, h⟩ | ⟨-, h⟩ <;> simp [h]

@[simp] theorem writeByte_measuredTemperature (b : Byte) (d : DeviceState) :
    (d.writeByte b).measuredTemperature = d.measuredTemperature := by
  rcases writeByte_cases b d with ⟨-, h⟩ | ⟨-, h⟩ <;> simp [h]

@[simp] theorem writeByte_storedTemperature (b : Byte) (d : DeviceState) :
    (d.writeByte b).storedTemperature = d.storedTemperature := by
  rcases writeByte_cases b d with ⟨-, h⟩ | ⟨-, h⟩ <;> simp [h]

theorem thresholdReEval_of_converting {d : DeviceState} (h : d.convertingContinuously = true) :
    d.thresholdReEval = reEval d.measuredTemperature d := by
  rw [DeviceState.thresholdReEval, h]; rfl

theorem thresholdReEval_of_not_converting {d : DeviceState} (h : d.convertingContinuously = false) :
    d.thresholdReEval = d := by
  rw [DeviceState.thresholdReEval, h]; rfl

section
variable {s : State} (b : Byte)

theorem dataByte_of_not_completes (h : s.dev.completesThreshold = false) :
    s.dataByte b = { s with dev := s.dev.writeByte b } := by
  rw [State.dataByte, h]; rfl

/-- TW.1 to TW.3 as one step (R225). -/
theorem dataByte_event (h : s.dev.completesThreshold = true) (ha : s.params.atomicity = .event) :
    s.dataByte b = { s with dev := (s.dev.writeByte b).thresholdReEval } := by
  rw [State.dataByte, h, ha]; rfl

/-- TW.1 alone (R226). -/
theorem dataByte_split (h : s.dev.completesThreshold = true) (ha : s.params.atomicity = .split) :
    s.dataByte b = { s with dev := s.dev.writeByte b,
                            tLocal := .thresholdStored s.dev.convertingContinuously } := by
  rw [State.dataByte, h, ha, writeByte_convertingContinuously]; rfl

end

theorem completesThreshold_eq_false {d : DeviceState}
    (h : d.pendingByteCount ≠ 1#8 ∨ d.writeTarget = .config ∨ d.writeTarget = .none) :
    d.completesThreshold = false := by
  rw [← Bool.not_eq_true, completesThreshold_iff]
  rintro ⟨hp, ht⟩
  rcases h with h | h | h
  · exact h hp
  · simp [h] at ht
  · simp [h] at ht

/-! ### A read, by the count -/

theorem byteOut_one (w : U16) : byteOut w 1#8 = w.extractLsb' 0 8 := by
  apply BitVec.eq_of_getLsbD_eq
  intro i hi
  simp [byteOut, hi]

theorem byteOut_two (w : U16) : byteOut w 2#8 = w.extractLsb' 8 8 := by
  apply BitVec.eq_of_getLsbD_eq
  intro i hi
  simp [byteOut, hi]

theorem readByte_of_eq_zero {s : State} (h : s.dev.pendingByteCount = 0#8) : s.readByte = s.readPastEnd :=
  if_pos h

theorem readByte_of_eq_one {s : State} (h : s.dev.pendingByteCount = 1#8) :
    s.readByte = { s with dev := { s.dev with pendingByteCount := 0#8, writeTarget := .none },
                          emitted := s.emitted ++ [s.dev.transferBuffer.extractLsb' 0 8] } := by
  rw [State.readByte, if_neg (by rw [h]; decide), DeviceState.afterRead, if_pos (by rw [h]; decide), h, byteOut_one]

theorem readByte_of_eq_two {s : State} (h : s.dev.pendingByteCount = 2#8) :
    s.readByte = { s with dev := { s.dev with pendingByteCount := 1#8 },
                          emitted := s.emitted ++ [s.dev.transferBuffer.extractLsb' 8 8] } := by
  rw [State.readByte, if_neg (by rw [h]; decide), DeviceState.afterRead, if_neg (by rw [h]; decide), h, byteOut_two]
  rfl

/-! ### The obligations on the dispatch of a byte -/

/-- Settles O11: with nothing pending the byte is dispatched, and distinct command bytes leave one row for it. -/
theorem writtenCommandByteDispatches : Obligations.WrittenCommandByteDispatches := by
  intro s hp hc
  have dispatches : ∀ {i b}, decodeCommand s.params.commands b = i →
      ∃ t, exec (.wb b) s = .next t ∧ exec i s = .next t := by
    rintro i b rfl
    obtain ⟨t, ht⟩ := exec_wb_completes b s
    exact ⟨t, ht, exec_wb_command hp b ▸ ht⟩
  have command : ∀ {i b}, (i, b) ∈ s.params.commands.rows → ∃ t, exec (.wb b) s = .next t ∧ exec i s = .next t :=
    fun h => dispatches (decodeCommand_of_mem_rows hc h)
  refine ⟨command ?_, command ?_, command ?_, command ?_, command ?_, command ?_, command ?_, command ?_,
    fun b hb => dispatches (decodeCommand_of_not_mem hb)⟩ <;> simp [CommandBytes.rows]

/-- Settles O46: the decoded row is the row the event is in this state, and an instruction acts as its row. -/
theorem eventRowsActAsTheirDecodedRow : Obligations.EventRowsActAsTheirDecodedRow := by
  intro s o
  obtain ⟨t, ht⟩ := exec_completes (eventOfOperation o) s
  exact ⟨t, ht, exec_decodeOperation o s ▸ ht⟩

/-! ### The obligations on the commands -/

/-- Settles O7: the re-evaluation keeps bit 0 of CONFIG, so the branch is the one CONFIG had before the step. -/
theorem startConvertInOneStep : Obligations.StartConvertInOneStep := by
  intro s ha
  rw [exec_start, startConvert_event ha]
  refine ⟨fun h0 => ?_, fun h0 => ?_⟩
  · rw [enterContinuous_of_not_oneShot ((oneShot_reEval _ _).trans h0)]
  · rw [enterContinuous_of_oneShot ((oneShot_reEval _ _).trans h0)]

/-- Settles O8: one equation for each sub-step. -/
theorem startConvertSubSteps : Obligations.StartConvertSubSteps := by
  refine ⟨fun s ha => by rw [exec_start, startConvert_split ha], fun s m h => resumeTransport_startSampled h,
    fun s h => ⟨fun h0 => ?_, fun h0 => ?_⟩⟩
  · rw [resumeTransport_startReevaluated h, enterContinuous_of_not_oneShot h0]
  · rw [resumeTransport_startReevaluated h, enterContinuous_of_oneShot h0]

/-- Settles O10: from an idle transfer the two fields written hold those values already. -/
theorem unknownCommandIsAbsorbed : Obligations.UnknownCommandIsAbsorbed := by
  intro s b
  rw [exec_unknown, abandonTransfer_eq]
  refine ⟨rfl, fun hp ht => ?_⟩
  rw [← hp, ← ht]

/-! ### The obligations on the transfer -/

/-- Settles O12: a byte that is not the last commits nothing. -/
theorem dataByteIsAssembled : Obligations.DataByteIsAssembled := by
  intro s b h0 h1
  rw [exec_wdata_data h0, dataByte_of_not_completes b (completesThreshold_eq_false (.inl h1)),
    writeByte_of_ne_one h1, takeByte_eq, shiftIn]

/-- Settles O13: neither target is a threshold, so the byte is stored in one step under either atomicity. -/
theorem lastDataByteWithoutThreshold : Obligations.LastDataByteWithoutThreshold := by
  intro s b h1
  have h0 : s.dev.pendingByteCount ≠ 0#8 := by rw [h1]; decide
  refine ⟨fun ht => ?_, fun ht => ?_⟩
  · rw [exec_wdata_data h0, dataByte_of_not_completes b (completesThreshold_eq_false (.inr (.inl ht))),
      writeByte_config h1 b ht, shiftIn]
  · rw [exec_wdata_data h0, dataByte_of_not_completes b (completesThreshold_eq_false (.inr (.inr ht))),
      writeByte_none h1 b ht, shiftIn]

/-- Settles O14: the store, then the re-evaluation with the measured value the store left alone. -/
theorem lastThresholdByteInOneStep : Obligations.LastThresholdByteInOneStep := by
  intro s b d ha h1 hd
  obtain ⟨hc, rfl⟩ : s.dev.completesThreshold = true ∧ s.dev.writeByte b = d := by
    rw [completesThreshold_iff]
    rcases hd with ⟨ht, rfl⟩ | ⟨ht, rfl⟩
    · exact ⟨⟨h1, .inl ht⟩, writeByte_th h1 b ht⟩
    · exact ⟨⟨h1, .inr ht⟩, writeByte_tl h1 b ht⟩
  rw [exec_wdata_data (by rw [h1]; decide), dataByte_event b hc ha]
  refine ⟨fun h => ?_, fun h => ?_⟩
  · rw [thresholdReEval_of_converting (by simpa using h), writeByte_measuredTemperature]
  · rw [thresholdReEval_of_not_converting (by simpa using h)]

/-- Settles O15: TW.1 by the target, then one equation for each later sub-step. -/
theorem thresholdWriteSubSteps : Obligations.ThresholdWriteSubSteps := by
  refine ⟨fun s b ha h1 => ?_, fun s => ⟨resumeTransport_thresholdStored, resumeTransport_thresholdStored,
    fun m => resumeTransport_thresholdSampled_some, resumeTransport_thresholdSampled_none⟩⟩
  rw [exec_wdata_data (by rw [h1]; decide)]
  refine ⟨fun ht => ?_, fun ht => ?_⟩
  · rw [dataByte_split b ((completesThreshold_iff _).2 ⟨h1, .inl ht⟩) ha, writeByte_th h1 b ht, shiftIn]
  · rw [dataByte_split b ((completesThreshold_iff _).2 ⟨h1, .inr ht⟩) ha, writeByte_tl h1 b ht, shiftIn]

/-- Settles O16: a shift keeps the low byte only, so after two of them nothing of the old buffer is left. -/
theorem assembledBufferIsBytesInOrder : Obligations.AssembledBufferIsBytesInOrder := by
  intro w b1 b2
  exact ⟨by rw [shiftIn_eq_wordOfBytes, lowByte_shiftIn], shiftIn_eq_wordOfBytes w b1⟩

/-- Settles O17: the three rows are one read, at a pending count of 1 or 2. -/
theorem pendingReadEmitsNextByte : Obligations.PendingReadEmitsNextByte := by
  intro s i hi
  have read : exec i s = .next s.readByte := by
    rcases hi with rfl | rfl | rfl
    exacts [exec_rdata s, exec_rq s, exec_rc s]
  rw [read]
  exact ⟨fun h => by rw [readByte_of_eq_one h], fun h => by rw [readByte_of_eq_two h]⟩

/-- Settles O18: with nothing pending the four rows read past the end. -/
theorem readPastEndEmitsFreeByte : Obligations.ReadPastEndEmitsFreeByte := by
  intro s i hp hi
  have read : exec i s = .next s.readPastEnd := by
    rw [← readByte_of_eq_zero hp]
    rcases hi with rfl | rfl | rfl | rfl
    exacts [(exec_rpe s).trans (by rw [readByte_of_eq_zero hp]), exec_rdata s, exec_rq s, exec_rc s]
  rw [read, State.readPastEnd]

/-- Settles O20. The row abandons the transfer, which writes two fields. -/
theorem writeStreamStartAbandonsTransfer : Obligations.WriteStreamStartAbandonsTransfer := by
  intro s
  rw [exec_ws, abandonTransfer_eq]

/-- Settles O22: a stream stop answers the state it was given (C7). -/
theorem streamStopChangesNothing : Obligations.StreamStopChangesNothing :=
  fun s => exec_sp s

/-! ### The obligations on the host port -/

/-- Settles O25: the two branches of the one step. -/
theorem ambientUpdateInOneStep : Obligations.AmbientUpdateInOneStep := by
  intro s v ha
  rw [exec_amb, setAmbient_event v ha]
  exact ⟨fun h => by rw [h]; rfl, fun h => by rw [h]; rfl⟩

/-- Settles O26: one equation for each sub-step. -/
theorem ambientUpdateSubSteps : Obligations.AmbientUpdateSubSteps :=
  ⟨fun s v ha => by rw [exec_amb, setAmbient_split v ha], fun _ _ => resumeAmbient_stored,
    fun _ _ => resumeAmbient_tested, fun _ _ => resumeAmbient_tested⟩

/-- R143: the latch read through POL. -/
theorem pinLevel_eq (d : DeviceState) :
    pinLevel d = if d.config.getLsbD 1 then d.outputPinActive else !d.outputPinActive := by
  rw [pinLevel, polarity]
  cases d.config.getLsbD 1 <;> cases d.outputPinActive <;> rfl

/-- Settles O27: comparing the latch with POL is reading it through POL. -/
theorem pinLevelReadFollowsPolarity : Obligations.PinLevelReadFollowsPolarity := by
  intro s
  rw [exec_pinq, pinLevel_eq]

/-- Settles O28: the row answers the stored byte. -/
theorem rawConfigReadAnswersStored : Obligations.RawConfigReadAnswersStored :=
  fun s => exec_cfgq s

/-- Settles O29: the row answers the stored words. -/
theorem thresholdsReadAnswersStored : Obligations.ThresholdsReadAnswersStored :=
  fun s => exec_thrq s

end Sys2Proof.Machine
end

section
/-! What the re-evaluation does to the flags, over one evaluation and over a sweep (42_reeval.md R141, R145). -/

namespace Sys2Proof.Machine

/-- Settles O32: each case fixes the comparisons that the three rules of the re-evaluation are about. -/
theorem reEvaluationCaseTable : Obligations.ReEvaluationCaseTable := by
  rintro m d hi lo x hhi hlo rfl
  rw [highFlag_reEval, lowFlag_reEval, reEval_outputPinActive, DeviceState.highBound, DeviceState.lowBound, ← hhi, ← hlo]
  refine ⟨fun h1 h2 => ?_, fun h1 h2 => ?_, fun h1 h2 => ?_, fun h1 h2 => ?_, fun h1 h2 => ?_, fun h1 h2 => ?_⟩
  · simp [h1, h2.not_ge, h2.not_gt]
  · simp [h1, h2.le, h2.not_lt]
  · simp [h1, h2, h2.le]
  · simp [h1.not_ge, h2.not_ge, h2.not_gt]
  · simp [h1.not_ge, h2.le, h2.not_lt]
  · simp [h1.not_ge, h2, h2.le]

/-- One update of a sweep: a flag is set if it was or if the value meets its bound, and the next update starts from the
same bounds. -/
theorem setAmbient_of_converting {s : State} (v : I32) (ha : s.params.atomicity = .event)
    (hc : s.dev.convertingContinuously = true) :
    (highFlag (s.setAmbient v).dev.config = true ↔
        highFlag s.dev.config = true ∨ decodeNativeToMilli s.dev.thresholdHigh ≤ v.toInt) ∧
      (lowFlag (s.setAmbient v).dev.config = true ↔
        lowFlag s.dev.config = true ∨ v.toInt ≤ decodeNativeToMilli s.dev.thresholdLow) ∧
      (s.setAmbient v).dev.thresholdHigh = s.dev.thresholdHigh ∧
      (s.setAmbient v).dev.thresholdLow = s.dev.thresholdLow ∧
      (s.setAmbient v).params.atomicity = .event ∧ (s.setAmbient v).dev.convertingContinuously = true := by
  rw [setAmbient_event v ha, if_pos hc]
  refine ⟨?_, ?_, reEval_thresholdHigh v _, reEval_thresholdLow v _, ha,
    (reEval_convertingContinuously v _).trans hc⟩
  · rw [highFlag_reEval, Bool.or_eq_true, decide_eq_true_iff]; rfl
  · rw [lowFlag_reEval, Bool.or_eq_true, decide_eq_true_iff]; rfl

/-- Settles O35, by induction on the updates: the first one adds its own comparison to each flag, and the rest add theirs
against the same bounds. -/
theorem ambientSweepSetsFlagsAtTheBound : Obligations.AmbientSweepSetsFlagsAtTheBound := by
  intro vs
  induction vs with
  | nil => exact fun s _ hc => ⟨s, rfl, by simp [hc]⟩
  | cons v vs ih =>
    intro s ha hc
    obtain ⟨hhigh, hlow, hth, htl, ha', hc'⟩ := setAmbient_of_converting v ha hc
    obtain ⟨t, ht, htlow, hthigh, hkeep⟩ := ih (s.setAmbient v) ha' hc'
    rw [hth, htl] at hkeep
    refine ⟨t, ht, htlow.trans ?_, hthigh.trans ?_, hkeep⟩
    · rw [hlow, htl, or_assoc, List.exists_mem_cons_iff]
    · rw [hhigh, hth, or_assoc, List.exists_mem_cons_iff]

end Sys2Proof.Machine
end

section
/-! The temperature codec (40_codec.md R100-R110): first each function as an expression in `/` and `%` on integers, which
`omega` decides, then the laws. -/

namespace Sys2Proof.Machine

/-! ### Narrowing and sign extension -/

theorem sext_nine (v : Int) : sext 9 v = (v + 256) % 512 - 256 := by
  simp only [sext, asSigned, trunc]
  split_ifs <;> omega

/-- A value of nine signed bits is its own sign extension. -/
theorem sext_nine_of_bounds {v : Int} (h1 : -256 ≤ v) (h2 : v ≤ 255) : sext 9 v = v := by
  rw [sext_nine]; omega

/-- The bytes of a word are its quotient and remainder by 256, so the signed high byte is the floor (R104). -/
theorem integerPart_eq (w : I16) : integerPart w = w.toInt / 256 := by
  have hhigh : (highByte w).toNat = w.toNat / 256 := by
    have := w.isLt
    simp only [highByte, BitVec.toNat_setWidth, BitVec.toNat_ushiftRight, Nat.shiftRight_eq_div_pow]
    omega
  rw [integerPart, asSigned, hhigh, BitVec.toInt_eq_toNat_cond]
  split_ifs <;> omega

theorem storeWord_toNat (v : Int) : (storeWord v).toNat = (v % 65536).toNat := by
  simp only [storeWord, trunc, BitVec.toNat_ofNat]
  omega

theorem storeByte_eq_ofInt (v : Int) : storeByte v = BitVec.ofInt 8 v := by
  apply BitVec.eq_of_toNat_eq
  simp only [storeByte, trunc, BitVec.toNat_ofNat, BitVec.toNat_ofInt]
  omega

/-! ### Decoding a native word -/

theorem decodeNativeToMilli_eq (w : I16) : decodeNativeToMilli w = 500 * (w.toInt / 128) := by
  have h1 := w.le_toInt
  have h2 := w.toInt_lt
  rw [decodeNativeToMilli, asr, sext_nine_of_bounds (by omega) (by omega), Int.mul_comm]
  rfl

theorem and_FF80_toNat (w : I16) : (w &&& 0xFF80#16).toNat = 128 * (w.toNat / 128) := by
  have hlow : (w &&& 0x7F#16).toNat = w.toNat % 128 := Nat.and_two_pow_sub_one_eq_mod w.toNat 7
  have hsum : w = (w &&& 0xFF80#16) + (w &&& 0x7F#16) := by
    have hdisj : (w &&& 0xFF80#16) &&& (w &&& 0x7F#16) = 0#16 := by
      rw [BitVec.and_assoc, BitVec.and_comm w 0x7F#16, ← BitVec.and_assoc 0xFF80#16]
      simp
    rw [BitVec.add_eq_or_of_and_eq_zero _ _ hdisj, ← BitVec.and_or_distrib_left]
    exact BitVec.and_allOnes.symm
  have := congrArg BitVec.toNat hsum
  rw [BitVec.toNat_add] at this
  omega

/-- Clearing bits 6 to 0 keeps the step count. -/
theorem toInt_and_div (w : I16) : (w &&& 0xFF80#16).toInt / 128 = w.toInt / 128 := by
  rw [BitVec.toInt_eq_toNat_cond, BitVec.toInt_eq_toNat_cond, and_FF80_toNat]
  split_ifs <;> omega

/-! ### Rounding to half steps -/

theorem roundHalfSteps_of_nonneg {x : Int} (h : 0 ≤ x) : roundHalfSteps x = (x + 250) / 500 := by
  rw [roundHalfSteps, tdiv, Int.natAbs_of_nonneg h, Int.tdiv_eq_ediv_of_nonneg (by omega)]
  rcases h.eq_or_lt with rfl | h
  · rfl
  · rw [Int.sign_eq_one_of_pos h, Int.one_mul]

theorem roundHalfSteps_of_neg {x : Int} (h : x < 0) : roundHalfSteps x = -((250 - x) / 500) := by
  rw [roundHalfSteps, tdiv, Int.ofNat_natAbs_of_nonpos h.le, Int.tdiv_eq_ediv_of_nonneg (by omega),
    Int.sign_eq_neg_one_of_neg h]
  omega

/-- The step count is the nearest, and at a tie the one farther from zero (R101). -/
theorem roundHalfSteps_bounds (x : Int) :
    (0 ≤ x → -250 < roundHalfSteps x * 500 - x ∧ roundHalfSteps x * 500 - x ≤ 250) ∧
      (x < 0 → -250 ≤ roundHalfSteps x * 500 - x ∧ roundHalfSteps x * 500 - x < 250) := by
  refine ⟨fun h => ?_, fun h => ?_⟩
  · rw [roundHalfSteps_of_nonneg h]; omega
  · rw [roundHalfSteps_of_neg h]; omega

/-- R101, R109: the error is at most 250, and 250 exactly at the ties, where the value goes away from zero. -/
theorem roundHalfSteps_near (x : Int) :
    |roundHalfSteps x * 500 - x| ≤ 250 ∧ (|roundHalfSteps x * 500 - x| = 250 ↔ x % 500 = 250) ∧
      (x % 500 = 250 → |x| < |roundHalfSteps x * 500|) := by
  obtain ⟨hpos, hneg⟩ := roundHalfSteps_bounds x
  rw [abs_le, abs_eq (by decide)]
  rcases le_or_gt 0 x with h | h
  · obtain ⟨h1, h2⟩ := hpos h
    rw [abs_of_nonneg h, abs_of_nonneg (by omega)]
    omega
  · obtain ⟨h1, h2⟩ := hneg h
    rw [abs_of_neg h, abs_of_nonpos (by omega)]
    omega

theorem representable_iff (x : Int) : Representable x ↔ -128249 ≤ x ∧ x ≤ 127749 := by
  rw [Representable]
  rcases le_or_gt 0 x with h | h
  · rw [roundHalfSteps_of_nonneg h]; omega
  · rw [roundHalfSteps_of_neg h]; omega

/-! ### Encoding -/

theorem encode_toNat (m : I32) :
    (encodeMilliToRoundedNative m).toNat = 128 * (roundHalfSteps m.toInt % 512).toNat := by
  rw [encodeMilliToRoundedNative, storeWord_toNat, shl]
  omega

/-- R103: the encoded word is the step count, wrapped into nine bits, above seven zero bits. -/
theorem encode_toInt (m : I32) :
    (encodeMilliToRoundedNative m).toInt = 128 * sext 9 (roundHalfSteps m.toInt) := by
  rw [BitVec.toInt_eq_toNat_cond, encode_toNat, sext_nine]
  split_ifs <;> omega

theorem encode_low_bits (m : I32) : encodeMilliToRoundedNative m &&& 0x7F#16 = 0#16 := by
  apply BitVec.eq_of_toNat_eq
  rw [BitVec.toNat_and, encode_toNat]
  change _ &&& (2 ^ 7 - 1) = 0
  rw [Nat.and_two_pow_sub_one_eq_mod]
  omega

theorem encode_toInt_of_representable {m : I32} (h : Representable m.toInt) :
    (encodeMilliToRoundedNative m).toInt = 128 * roundHalfSteps m.toInt := by
  rw [encode_toInt, sext_nine_of_bounds h.1 h.2]

/-! ### The obligations -/

/-- Settles O36: the step count is the floor of the signed value over 128, and half of it the floor over 256. -/
theorem nativeDecodesToHalfDegrees : Obligations.NativeDecodesToHalfDegrees := by
  intro w
  have h1 := w.le_toInt
  have h2 := w.toInt_lt
  refine ⟨decodeNativeToMilli_eq w, ?_, ?_, ?_, ?_⟩
  · rw [decodeNativeToMilli_eq]; omega
  · rw [decodeNativeToMilli_eq]; omega
  · rw [decodeNativeToMilli_eq, decodeNativeToMilli_eq, toInt_and_div]
  · rw [integerPart_eq]; omega

/-- Settles O37: at an error of 250 the value is at a tie. -/
theorem halfStepsRoundToNearest : Obligations.HalfStepsRoundToNearest := by
  intro x
  obtain ⟨hle, htie, hfar⟩ := roundHalfSteps_near x
  rw [abs_mul, abs_two]
  exact ⟨by linarith, fun h => hfar (htie.1 (by linarith))⟩

/-- Settles O38. -/
theorem encodedStepCountWrapsInNineBits : Obligations.EncodedStepCountWrapsInNineBits :=
  ⟨representable_iff, fun m => ⟨encode_toInt m, encode_low_bits m⟩, fun _ => encode_toInt_of_representable⟩

/-- Settles O39: without a wrap, decoding gives back the step count that the value was rounded to. -/
theorem encodeThenDecodeIsWithin250 : Obligations.EncodeThenDecodeIsWithin250 := by
  intro m h
  have hdec : decodeNativeToMilli (encodeMilliToRoundedNative m) = roundHalfSteps m.toInt * 500 := by
    rw [decodeNativeToMilli_eq, encode_toInt_of_representable h]
    omega
  rw [hdec]
  exact roundHalfSteps_near m.toInt

/-- The whole degrees taken off are those of the step count, so what is left is from -250 to 750. -/
theorem fractionalDelta_bounds {m : I32} (h : Representable m.toInt) :
    -250 ≤ fractionalDelta m ∧ fractionalDelta m ≤ 750 := by
  obtain ⟨hpos, hneg⟩ := roundHalfSteps_bounds m.toInt
  rw [fractionalDelta, integerPart_eq, encode_toInt_of_representable h]
  omega

theorem counter_eq (m : I32) : (extendedResolutionRegisters m).counter =
    BitVec.ofInt 8 (Int.tdiv ((750 - fractionalDelta m) * 255) 1000) :=
  storeByte_eq_ofInt _

/-- A representable value's quotient is nonnegative and fits the byte, so it is neither rounded up nor narrowed. -/
theorem counter_toNat_of_representable {m : I32} (h : Representable m.toInt) :
    ((extendedResolutionRegisters m).counter.toNat : Int) = (750 - fractionalDelta m) * 255 / 1000 := by
  obtain ⟨h1, h2⟩ := fractionalDelta_bounds h
  rw [counter_eq, Int.tdiv_eq_ediv_of_nonneg (by omega), BitVec.toNat_ofInt]
  omega

/-- Settles O40: the consumer puts back the whole degrees and the quotient, so what is missing is the division's
remainder. -/
theorem counterAndSlopeRecoverTemperature : Obligations.CounterAndSlopeRecoverTemperature := by
  refine ⟨fun m => ⟨rfl, rfl, ?_⟩, fun m h => ⟨counter_toNat_of_representable h, ?_⟩⟩
  · rw [counter_eq, fractionalDelta, integerPart_eq, Int.mul_comm 1000]
  · have hc := counter_toNat_of_representable h
    rw [fractionalDelta] at hc
    rw [reconstructTimes255, extendedResolutionRegisters_roundedNative]
    omega

end Sys2Proof.Machine
end

section
/-! The step (10_state.md R41-R43, 20_memory.md R60, 70_reset_and_hazards.md R220, R221): which activity the schedule
gives, what the step does for each, and what attach and detach leave. -/

namespace Sys2Proof.Machine

/-! ### What the next step is -/

section
variable {s : State} {rest : List Agent}

theorem activity_nil (h : s.schedule = []) : s.activity = .wait := by rw [State.activity, h]

theorem activity_transport (h : s.schedule = .transport :: rest) : s.activity = s.transportActivity := by
  rw [State.activity, h]

theorem activity_ambient (h : s.schedule = .ambient :: rest) : s.activity = s.ambientActivity := by
  rw [State.activity, h]

theorem activity_diagnostic (h : s.schedule = .diagnostic :: rest) : s.activity = s.diagnosticActivity := by
  rw [State.activity, h]

theorem activity_lifecycle (h : s.schedule = .lifecycle :: rest) : s.activity = s.lifecycleActivity := by
  rw [State.activity, h]

theorem transportActivity_divided (h : s.tLocal ≠ .idle) : s.transportActivity = .resumeTransport := if_neg h

theorem transportActivity_nil (h : s.tLocal = .idle) (hq : s.tQueue = []) : s.transportActivity = .wait := by
  rw [State.transportActivity, if_pos h, hq]

theorem transportActivity_cons {o : TransportOp} {q : List TransportOp} (h : s.tLocal = .idle)
    (hq : s.tQueue = o :: q) : s.transportActivity = .issue (.transport o) := by
  rw [State.transportActivity, if_pos h, hq]

theorem ambientActivity_divided (h : s.aLocal ≠ .idle) : s.ambientActivity = .resumeAmbient := if_neg h

theorem ambientActivity_nil (h : s.aLocal = .idle) (hq : s.aQueue = []) : s.ambientActivity = .wait := by
  rw [State.ambientActivity, if_pos h, hq]

theorem ambientActivity_cons {v : I32} {q : List I32} (h : s.aLocal = .idle) (hq : s.aQueue = v :: q) :
    s.ambientActivity = .issue (.ambient v) := by
  rw [State.ambientActivity, if_pos h, hq]

theorem diagnosticActivity_nil (hq : s.hQueue = []) : s.diagnosticActivity = .wait := by
  rw [State.diagnosticActivity, hq]

theorem diagnosticActivity_cons {o : DiagnosticOp} {q : List DiagnosticOp} (hq : s.hQueue = o :: q) :
    s.diagnosticActivity = .issue (.diagnostic o) := by
  rw [State.diagnosticActivity, hq]

theorem lifecycleActivity_nil (hq : s.lQueue = []) : s.lifecycleActivity = .wait := by
  rw [State.lifecycleActivity, hq]

theorem lifecycleActivity_cons {o : LifecycleOp} {q : List LifecycleOp} (hq : s.lQueue = o :: q) :
    s.lifecycleActivity = .lifecycle o := by
  rw [State.lifecycleActivity, hq]

end

/-- Everything the next step can be: an agent inside a divided operation goes on with it, and issues an operation of its
own interface only between them (R5, R226). -/
theorem activity_cases (s : State) :
    s.activity = .wait ∨ (s.activity = .resumeTransport ∧ s.tLocal ≠ .idle) ∨
      (s.activity = .resumeAmbient ∧ s.aLocal ≠ .idle) ∨ (∃ o, s.activity = .lifecycle o) ∨
      ∃ o rest, s.activity = .issue o ∧ s.schedule = o.agent :: rest ∧ (o.agent = .transport → s.tLocal = .idle) ∧
        (o.agent = .ambient → s.aLocal = .idle) := by
  cases hs : s.schedule with
  | nil => exact .inl (activity_nil hs)
  | cons a rest =>
    cases a with
    | transport =>
      rw [activity_transport hs]
      by_cases hl : s.tLocal = .idle
      · cases hq : s.tQueue with
        | nil => exact .inl (transportActivity_nil hl hq)
        | cons o q =>
          exact .inr (.inr (.inr (.inr ⟨_, rest, transportActivity_cons hl hq, rfl, fun _ => hl, nofun⟩)))
      · exact .inr (.inl ⟨transportActivity_divided hl, hl⟩)
    | ambient =>
      rw [activity_ambient hs]
      by_cases hl : s.aLocal = .idle
      · cases hq : s.aQueue with
        | nil => exact .inl (ambientActivity_nil hl hq)
        | cons v q =>
          exact .inr (.inr (.inr (.inr ⟨_, rest, ambientActivity_cons hl hq, rfl, nofun, fun _ => hl⟩)))
      · exact .inr (.inr (.inl ⟨ambientActivity_divided hl, hl⟩))
    | diagnostic =>
      rw [activity_diagnostic hs]
      cases hq : s.hQueue with
      | nil => exact .inl (diagnosticActivity_nil hq)
      | cons o q => exact .inr (.inr (.inr (.inr ⟨_, rest, diagnosticActivity_cons hq, rfl, nofun, nofun⟩)))
    | lifecycle =>
      rw [activity_lifecycle hs]
      cases hq : s.lQueue with
      | nil => exact .inl (lifecycleActivity_nil hq)
      | cons o q => exact .inr (.inr (.inr (.inl ⟨o, lifecycleActivity_cons hq⟩)))

theorem activity_issue {s : State} {o : Operation} (h : s.activity = .issue o) :
    (∃ rest, s.schedule = o.agent :: rest) ∧ (o.agent = .transport → s.tLocal = .idle) ∧
      (o.agent = .ambient → s.aLocal = .idle) := by
  rcases activity_cases s with h' | ⟨h', -⟩ | ⟨h', -⟩ | ⟨_, h'⟩ | ⟨_, rest, h', hs, hl⟩ <;> cases h'.symm.trans h
  exact ⟨⟨rest, hs⟩, hl⟩

theorem activity_resumeTransport {s : State} (h : s.activity = .resumeTransport) : s.tLocal ≠ .idle := by
  rcases activity_cases s with h' | ⟨h', hl⟩ | ⟨h', -⟩ | ⟨_, h'⟩ | ⟨_, _, h', -⟩ <;> cases h'.symm.trans h
  exact hl

theorem activity_resumeAmbient {s : State} (h : s.activity = .resumeAmbient) : s.aLocal ≠ .idle := by
  rcases activity_cases s with h' | ⟨h', -⟩ | ⟨h', hl⟩ | ⟨_, h'⟩ | ⟨_, _, h', -⟩ <;> cases h'.symm.trans h
  exact hl

/-! ### What the step does for each activity -/

section
variable {s : State} (hd : s.params.commands.Distinct)
include hd

theorem step_of_wait (h : s.activity = .wait) : step s = .next s.endTurn := by
  rw [step, if_pos hd, h]

theorem step_of_resumeTransport (h : s.activity = .resumeTransport) : step s = .next s.endTurn.resumeTransport := by
  rw [step, if_pos hd, h]

theorem step_of_resumeAmbient (h : s.activity = .resumeAmbient) : step s = .next s.endTurn.resumeAmbient := by
  rw [step, if_pos hd, h]

theorem step_of_issue {o : Operation} (ha : s.attached = true) (h : s.activity = .issue o) :
    step s = exec (s.decode o) (s.endTurn.dequeue o) := by
  rw [step, if_pos hd, h]
  exact if_pos ha

theorem step_of_issue_detached {o : Operation} (ha : s.attached = false) (h : s.activity = .issue o) :
    step s = .refused .notAttached := by
  rw [step, if_pos hd, h]
  exact if_neg (by simp [ha])

end

/-! ### The obligations on the step -/

/-- Settles O44: the refusals are tested before anything runs, and every instruction completes. -/
theorem stepStopsOnlyByRefusal : Obligations.StepStopsOnlyByRefusal := by
  intro s
  refine ⟨fun hd => if_neg hd, fun hd ⟨o, ho⟩ ha => step_of_issue_detached hd ha ho, fun hd ha => ?_⟩
  cases h : s.activity with
  | wait => exact ⟨_, step_of_wait hd h⟩
  | resumeTransport => exact ⟨_, step_of_resumeTransport hd h⟩
  | resumeAmbient => exact ⟨_, step_of_resumeAmbient hd h⟩
  | issue o => exact step_of_issue hd (ha ⟨o, h⟩) h ▸ exec_completes _ _
  | lifecycle o => exact ⟨_, step_of_lifecycle hd h⟩

/-- Settles O45: one equation for each activity, and the decoder answers what its condition allows. -/
theorem stepRunsDecodedOperation : Obligations.StepRunsDecodedOperation :=
  fun _ hd => ⟨fun o ha h => ⟨step_of_issue hd ha h, decodeOperation_wf_fits _ _ o⟩, step_of_wait hd,
    step_of_resumeTransport hd, step_of_resumeAmbient hd, step_of_lifecycle hd, step_of_lifecycle hd⟩

/-- Settles O60: by the agent at the head of the schedule, then by its unfinished operation and its queue. -/
theorem scheduledAgentMovesNext : Obligations.ScheduledAgentMovesNext := by
  intro s rest
  refine ⟨activity_nil, fun hs => ?_, fun hs => ?_, fun hs => ?_, fun hs => ?_⟩
  · rw [activity_transport hs]
    refine ⟨transportActivity_divided, transportActivity_nil, fun o q h hq => ⟨transportActivity_cons h hq, ?_⟩⟩
    simp [State.dequeue, State.endTurn, hs, hq]
  · rw [activity_ambient hs]
    refine ⟨ambientActivity_divided, ambientActivity_nil, fun v q h hq => ⟨ambientActivity_cons h hq, ?_⟩⟩
    simp [State.dequeue, State.endTurn, hs, hq]
  · rw [activity_diagnostic hs]
    refine ⟨diagnosticActivity_nil, fun o q hq => ⟨diagnosticActivity_cons hq, ?_⟩⟩
    simp [State.dequeue, State.endTurn, hs, hq]
  · rw [activity_lifecycle hs]
    refine ⟨lifecycleActivity_nil, fun o q hq => ⟨lifecycleActivity_cons hq, ?_⟩⟩
    simp [State.dequeueLifecycle, State.endTurn, hs, hq]

/-! ### The obligations on attach and detach -/

/-- Settles O50: the three states hold the attach record of some parameters, and these fields of it depend on none. -/
theorem attachGivesPowerOnDefaults : Obligations.AttachGivesPowerOnDefaults := by
  intro s hs
  obtain ⟨p, hp⟩ : ∃ p, s.dev = DeviceState.atAttach p := by
    rcases hs with rfl | ⟨p, rfl⟩ | ⟨r, rfl⟩
    exacts [⟨_, rfl⟩, ⟨p, rfl⟩, ⟨r.params, attach_dev r⟩]
  rw [hp]
  exact ⟨rfl, rfl, rfl, rfl, rfl⟩

/-- Settles O51: attach and detach as functions, then their steps, which run them after the turn and the operation are
used up. -/
theorem attachTakesParameterValues : Obligations.AttachTakesParameterValues := by
  rintro _ s _ rfl rfl
  exact ⟨rfl, rfl, rfl, rfl, rfl, step_of_lifecycle, step_of_lifecycle⟩

/-- Settles O52: the record after detach, as after attach, is made from the parameters alone. -/
theorem nothingSurvivesDetach : Obligations.NothingSurvivesDetach := by
  intro s s' hp
  refine ⟨?_, ?_, ?_, detach_attached s, attach_attached s.detach⟩
  · rw [detach_dev, detach_dev, hp]
  · rw [attach_dev, attach_dev, detach_params, detach_params, hp]
  · rw [attach_dev, detach_params]; rfl

end Sys2Proof.Machine
end

section
/-! The access matrix (10_state.md section 8, R41): what each operation leaves of the block, field by field, then for each
field the rows that can change it. -/

namespace Sys2Proof.Machine

/-! ### What each operation leaves of the block -/

section
variable (b : Byte) (d : DeviceState)
@[simp] theorem writeByte_readCounter : (d.writeByte b).readCounter = d.readCounter := by
  rcases writeByte_cases b d with ⟨-, h⟩ | ⟨-, h⟩ <;> simp [h]
@[simp] theorem writeByte_readSlope : (d.writeByte b).readSlope = d.readSlope := by
  rcases writeByte_cases b d with ⟨-, h⟩ | ⟨-, h⟩ <;> simp [h]
@[simp] theorem writeByte_outputPinActive : (d.writeByte b).outputPinActive = d.outputPinActive := by
  rcases writeByte_cases b d with ⟨-, h⟩ | ⟨-, h⟩ <;> simp [h]
end

section
variable (d : DeviceState)
@[simp] theorem thresholdReEval_storedTemperature : d.thresholdReEval.storedTemperature = d.storedTemperature := by
  unfold DeviceState.thresholdReEval; split <;> simp
@[simp] theorem thresholdReEval_measuredTemperature : d.thresholdReEval.measuredTemperature = d.measuredTemperature := by
  unfold DeviceState.thresholdReEval; split <;> simp
@[simp] theorem thresholdReEval_thresholdHigh : d.thresholdReEval.thresholdHigh = d.thresholdHigh := by
  unfold DeviceState.thresholdReEval; split <;> simp
@[simp] theorem thresholdReEval_thresholdLow : d.thresholdReEval.thresholdLow = d.thresholdLow := by
  unfold DeviceState.thresholdReEval; split <;> simp
@[simp] theorem thresholdReEval_readCounter : d.thresholdReEval.readCounter = d.readCounter := by
  unfold DeviceState.thresholdReEval; split <;> simp
@[simp] theorem thresholdReEval_readSlope : d.thresholdReEval.readSlope = d.readSlope := by
  unfold DeviceState.thresholdReEval; split <;> simp
@[simp] theorem thresholdReEval_convertingContinuously : d.thresholdReEval.convertingContinuously = d.convertingContinuously := by
  unfold DeviceState.thresholdReEval; split <;> simp
@[simp] theorem thresholdReEval_pendingByteCount : d.thresholdReEval.pendingByteCount = d.pendingByteCount := by
  unfold DeviceState.thresholdReEval; split <;> simp
@[simp] theorem thresholdReEval_transferBuffer : d.thresholdReEval.transferBuffer = d.transferBuffer := by
  unfold DeviceState.thresholdReEval; split <;> simp
@[simp] theorem thresholdReEval_writeTarget : d.thresholdReEval.writeTarget = d.writeTarget := by
  unfold DeviceState.thresholdReEval; split <;> simp
end

section
variable (s : State)
@[simp] theorem startConvert_storedTemperature : s.startConvert.dev.storedTemperature = s.dev.storedTemperature := by
  rcases startConvert_cases s with ⟨-, h⟩ | ⟨-, h⟩ <;> simp [h]
@[simp] theorem startConvert_thresholdHigh : s.startConvert.dev.thresholdHigh = s.dev.thresholdHigh := by
  rcases startConvert_cases s with ⟨-, h⟩ | ⟨-, h⟩ <;> simp [h]
@[simp] theorem startConvert_thresholdLow : s.startConvert.dev.thresholdLow = s.dev.thresholdLow := by
  rcases startConvert_cases s with ⟨-, h⟩ | ⟨-, h⟩ <;> simp [h]
@[simp] theorem startConvert_readCounter : s.startConvert.dev.readCounter = s.dev.readCounter := by
  rcases startConvert_cases s with ⟨-, h⟩ | ⟨-, h⟩ <;> simp [h]
@[simp] theorem startConvert_readSlope : s.startConvert.dev.readSlope = s.dev.readSlope := by
  rcases startConvert_cases s with ⟨-, h⟩ | ⟨-, h⟩ <;> simp [h]
@[simp] theorem startConvert_pendingByteCount : s.startConvert.dev.pendingByteCount = s.dev.pendingByteCount := by
  rcases startConvert_cases s with ⟨-, h⟩ | ⟨-, h⟩ <;> simp [h]
@[simp] theorem startConvert_transferBuffer : s.startConvert.dev.transferBuffer = s.dev.transferBuffer := by
  rcases startConvert_cases s with ⟨-, h⟩ | ⟨-, h⟩ <;> simp [h]
@[simp] theorem startConvert_writeTarget : s.startConvert.dev.writeTarget = s.dev.writeTarget := by
  rcases startConvert_cases s with ⟨-, h⟩ | ⟨-, h⟩ <;> simp [h]
@[simp] theorem startConvert_emitted : s.startConvert.emitted = s.emitted := by
  rcases startConvert_cases s with ⟨-, h⟩ | ⟨-, h⟩ <;> simp [h]
end

section
variable (v : I32) (s : State)
@[simp] theorem setAmbient_thresholdHigh : (s.setAmbient v).dev.thresholdHigh = s.dev.thresholdHigh := by
  rcases setAmbient_cases v s with ⟨-, -, h⟩ | ⟨-, -, h⟩ | ⟨-, h⟩ <;> simp [h]
@[simp] theorem setAmbient_thresholdLow : (s.setAmbient v).dev.thresholdLow = s.dev.thresholdLow := by
  rcases setAmbient_cases v s with ⟨-, -, h⟩ | ⟨-, -, h⟩ | ⟨-, h⟩ <;> simp [h]
@[simp] theorem setAmbient_readCounter : (s.setAmbient v).dev.readCounter = s.dev.readCounter := by
  rcases setAmbient_cases v s with ⟨-, -, h⟩ | ⟨-, -, h⟩ | ⟨-, h⟩ <;> simp [h]
@[simp] theorem setAmbient_readSlope : (s.setAmbient v).dev.readSlope = s.dev.readSlope := by
  rcases setAmbient_cases v s with ⟨-, -, h⟩ | ⟨-, -, h⟩ | ⟨-, h⟩ <;> simp [h]
@[simp] theorem setAmbient_convertingContinuously : (s.setAmbient v).dev.convertingContinuously = s.dev.convertingContinuously := by
  rcases setAmbient_cases v s with ⟨-, -, h⟩ | ⟨-, -, h⟩ | ⟨-, h⟩ <;> simp [h]
@[simp] theorem setAmbient_pendingByteCount : (s.setAmbient v).dev.pendingByteCount = s.dev.pendingByteCount := by
  rcases setAmbient_cases v s with ⟨-, -, h⟩ | ⟨-, -, h⟩ | ⟨-, h⟩ <;> simp [h]
@[simp] theorem setAmbient_transferBuffer : (s.setAmbient v).dev.transferBuffer = s.dev.transferBuffer := by
  rcases setAmbient_cases v s with ⟨-, -, h⟩ | ⟨-, -, h⟩ | ⟨-, h⟩ <;> simp [h]
@[simp] theorem setAmbient_writeTarget : (s.setAmbient v).dev.writeTarget = s.dev.writeTarget := by
  rcases setAmbient_cases v s with ⟨-, -, h⟩ | ⟨-, -, h⟩ | ⟨-, h⟩ <;> simp [h]
@[simp] theorem setAmbient_storedTemperature : (s.setAmbient v).dev.storedTemperature = v := by
  rcases setAmbient_cases v s with ⟨-, -, h⟩ | ⟨-, -, h⟩ | ⟨-, h⟩ <;> simp [h]
@[simp] theorem setAmbient_emitted : (s.setAmbient v).emitted = s.emitted := by
  rcases setAmbient_cases v s with ⟨-, -, h⟩ | ⟨-, -, h⟩ | ⟨-, h⟩ <;> simp [h]
end

section
variable (b : Byte) (s : State)
@[simp] theorem dataByte_storedTemperature : (s.dataByte b).dev.storedTemperature = s.dev.storedTemperature := by
  rcases dataByte_cases b s with ⟨-, h⟩ | ⟨-, -, h⟩ | ⟨-, -, h⟩ <;> simp [h]
@[simp] theorem dataByte_measuredTemperature : (s.dataByte b).dev.measuredTemperature = s.dev.measuredTemperature := by
  rcases dataByte_cases b s with ⟨-, h⟩ | ⟨-, -, h⟩ | ⟨-, -, h⟩ <;> simp [h]
@[simp] theorem dataByte_readCounter : (s.dataByte b).dev.readCounter = s.dev.readCounter := by
  rcases dataByte_cases b s with ⟨-, h⟩ | ⟨-, -, h⟩ | ⟨-, -, h⟩ <;> simp [h]
@[simp] theorem dataByte_readSlope : (s.dataByte b).dev.readSlope = s.dev.readSlope := by
  rcases dataByte_cases b s with ⟨-, h⟩ | ⟨-, -, h⟩ | ⟨-, -, h⟩ <;> simp [h]
@[simp] theorem dataByte_convertingContinuously : (s.dataByte b).dev.convertingContinuously = s.dev.convertingContinuously := by
  rcases dataByte_cases b s with ⟨-, h⟩ | ⟨-, -, h⟩ | ⟨-, -, h⟩ <;> simp [h]
@[simp] theorem dataByte_emitted : (s.dataByte b).emitted = s.emitted := by
  rcases dataByte_cases b s with ⟨-, h⟩ | ⟨-, -, h⟩ | ⟨-, -, h⟩ <;> simp [h]
end

section
variable (s : State)
@[simp] theorem readByte_storedTemperature : s.readByte.dev.storedTemperature = s.dev.storedTemperature := by
  rcases readByte_cases s with ⟨-, h⟩ | ⟨-, h⟩ <;> simp [h]
@[simp] theorem readByte_measuredTemperature : s.readByte.dev.measuredTemperature = s.dev.measuredTemperature := by
  rcases readByte_cases s with ⟨-, h⟩ | ⟨-, h⟩ <;> simp [h]
@[simp] theorem readByte_thresholdHigh : s.readByte.dev.thresholdHigh = s.dev.thresholdHigh := by
  rcases readByte_cases s with ⟨-, h⟩ | ⟨-, h⟩ <;> simp [h]
@[simp] theorem readByte_thresholdLow : s.readByte.dev.thresholdLow = s.dev.thresholdLow := by
  rcases readByte_cases s with ⟨-, h⟩ | ⟨-, h⟩ <;> simp [h]
@[simp] theorem readByte_config : s.readByte.dev.config = s.dev.config := by
  rcases readByte_cases s with ⟨-, h⟩ | ⟨-, h⟩ <;> simp [h]
@[simp] theorem readByte_outputPinActive : s.readByte.dev.outputPinActive = s.dev.outputPinActive := by
  rcases readByte_cases s with ⟨-, h⟩ | ⟨-, h⟩ <;> simp [h]
@[simp] theorem readByte_readCounter : s.readByte.dev.readCounter = s.dev.readCounter := by
  rcases readByte_cases s with ⟨-, h⟩ | ⟨-, h⟩ <;> simp [h]
@[simp] theorem readByte_readSlope : s.readByte.dev.readSlope = s.dev.readSlope := by
  rcases readByte_cases s with ⟨-, h⟩ | ⟨-, h⟩ <;> simp [h]
@[simp] theorem readByte_convertingContinuously : s.readByte.dev.convertingContinuously = s.dev.convertingContinuously := by
  rcases readByte_cases s with ⟨-, h⟩ | ⟨-, h⟩ <;> simp [h]
@[simp] theorem readByte_transferBuffer : s.readByte.dev.transferBuffer = s.dev.transferBuffer := by
  rcases readByte_cases s with ⟨-, h⟩ | ⟨-, h⟩ <;> simp [h]
end

/-! ### What a data byte stores -/

section
variable (b : Byte) (d : DeviceState)

theorem writeByte_thresholdHigh_or :
    (d.writeByte b).thresholdHigh = d.thresholdHigh ∨ d.pendingByteCount = 1#8 ∧ d.writeTarget = .th := by
  rcases writeByte_cases b d with ⟨-, h⟩ | ⟨hp, h⟩ <;> rw [h]
  · exact .inl rfl
  · rcases commit_cases (d.takeByte b) with ⟨ht, -⟩ | ⟨-, h⟩ | ⟨-, h⟩ | ⟨-, h⟩
    · exact .inr ⟨hp, ht⟩
    · exact .inl (by rw [h]; rfl)
    · exact .inl (by rw [h]; rfl)
    · exact .inl (by rw [h]; rfl)

theorem writeByte_thresholdLow_or :
    (d.writeByte b).thresholdLow = d.thresholdLow ∨ d.pendingByteCount = 1#8 ∧ d.writeTarget = .tl := by
  rcases writeByte_cases b d with ⟨-, h⟩ | ⟨hp, h⟩ <;> rw [h]
  · exact .inl rfl
  · rcases commit_cases (d.takeByte b) with ⟨-, h⟩ | ⟨ht, -⟩ | ⟨-, h⟩ | ⟨-, h⟩
    · exact .inl (by rw [h]; rfl)
    · exact .inr ⟨hp, ht⟩
    · exact .inl (by rw [h]; rfl)
    · exact .inl (by rw [h]; rfl)

theorem writeByte_config_or : (d.writeByte b).config = d.config ∨
    d.pendingByteCount = 1#8 ∧ d.writeTarget = .config ∧ (d.writeByte b).config = b := by
  rcases writeByte_cases b d with ⟨-, h⟩ | ⟨hp, h⟩
  · exact .inl (by rw [h]; rfl)
  · rcases commit_cases (d.takeByte b) with ⟨-, hc⟩ | ⟨-, hc⟩ | ⟨ht, -⟩ | ⟨-, hc⟩
    · exact .inl (by rw [h, hc]; rfl)
    · exact .inl (by rw [h, hc]; rfl)
    · exact .inr ⟨hp, ht, by rw [writeByte_config hp b ht]⟩
    · exact .inl (by rw [h, hc]; rfl)

end

section
variable (b : Byte) (s : State)

@[simp] theorem dataByte_thresholdHigh : (s.dataByte b).dev.thresholdHigh = (s.dev.writeByte b).thresholdHigh := by
  rcases dataByte_cases b s with ⟨-, h⟩ | ⟨-, -, h⟩ | ⟨-, -, h⟩ <;> simp [h]

@[simp] theorem dataByte_thresholdLow : (s.dataByte b).dev.thresholdLow = (s.dev.writeByte b).thresholdLow := by
  rcases dataByte_cases b s with ⟨-, h⟩ | ⟨-, -, h⟩ | ⟨-, -, h⟩ <;> simp [h]

end

/-! ### What keeps the flags -/

/-- Every flag set in the first CONFIG is set in the second (R142). -/
def KeepsFlags (c c' : Byte) : Prop :=
  (highFlag c = true → highFlag c' = true) ∧ (lowFlag c = true → lowFlag c' = true)

theorem KeepsFlags.of_eq {c c' : Byte} (h : c' = c) : KeepsFlags c c' := h ▸ ⟨id, id⟩

/-- R140: the tests only set flags. -/
theorem reEval_keepsFlags (m : I32) (d : DeviceState) : KeepsFlags d.config (reEval m d).config := by
  rw [KeepsFlags, highFlag_reEval, lowFlag_reEval]
  exact ⟨fun h => by rw [h, Bool.true_or], fun h => by rw [h, Bool.true_or]⟩

theorem startConvert_keepsFlags (s : State) : KeepsFlags s.dev.config s.startConvert.dev.config := by
  rcases startConvert_cases s with ⟨-, h⟩ | ⟨-, h⟩ <;> rw [h]
  · rw [enterContinuous_config]
    exact reEval_keepsFlags _ s.dev
  · exact .of_eq rfl

theorem setAmbient_keepsFlags (v : I32) (s : State) : KeepsFlags s.dev.config (s.setAmbient v).dev.config := by
  rcases setAmbient_cases v s with ⟨-, -, h⟩ | ⟨-, -, h⟩ | ⟨-, h⟩ <;> rw [h]
  · exact reEval_keepsFlags v { s.dev with storedTemperature := v }
  · exact .of_eq rfl
  · exact .of_eq rfl

theorem thresholdReEval_keepsFlags (d : DeviceState) : KeepsFlags d.config d.thresholdReEval.config := by
  cases hc : d.convertingContinuously with
  | true => exact thresholdReEval_of_converting hc ▸ reEval_keepsFlags _ d
  | false => exact .of_eq (by rw [thresholdReEval_of_not_converting hc])

/-- A byte that completes a threshold write stores no CONFIG, so what it re-evaluates has the flags there were. -/
theorem dataByte_keepsFlags_or (b : Byte) (s : State) : KeepsFlags s.dev.config (s.dataByte b).dev.config ∨
    s.dev.pendingByteCount = 1#8 ∧ s.dev.writeTarget = .config ∧ (s.dataByte b).dev.config = b := by
  rcases dataByte_cases b s with ⟨-, h⟩ | ⟨hc, -, h⟩ | ⟨-, -, h⟩ <;> rw [h]
  · exact (writeByte_config_or b s.dev).imp_left .of_eq
  · left
    rcases writeByte_config_or b s.dev with hw | ⟨-, ht, -⟩
    · exact hw ▸ thresholdReEval_keepsFlags _
    · simp [completesThreshold_eq_false (.inr (.inl ht))] at hc
  · exact (writeByte_config_or b s.dev).imp_left .of_eq

/-! ### What no row changes -/

/-- The fields that no instruction writes: the parameters, the attached flag, the queues and the schedule. -/
def State.SameOutside (s t : State) : Prop :=
  t.params = s.params ∧ t.attached = s.attached ∧ t.tQueue = s.tQueue ∧ t.aQueue = s.aQueue ∧
    t.hQueue = s.hQueue ∧ t.lQueue = s.lQueue ∧ t.schedule = s.schedule

theorem Action.sameOutside {i : Instr} {g : State → State} (hg : Action i g) (s : State) : s.SameOutside (g s) := by
  cases hg with
  | start => rcases startConvert_cases s with ⟨-, h⟩ | ⟨-, h⟩ <;> rw [h] <;> exact ⟨rfl, rfl, rfl, rfl, rfl, rfl, rfl⟩
  | dataByte b =>
    rcases dataByte_cases b s with ⟨-, h⟩ | ⟨-, -, h⟩ | ⟨-, -, h⟩ <;> rw [h] <;>
      exact ⟨rfl, rfl, rfl, rfl, rfl, rfl, rfl⟩
  | readByte => rcases readByte_cases s with ⟨-, h⟩ | ⟨-, h⟩ <;> rw [h] <;> exact ⟨rfl, rfl, rfl, rfl, rfl, rfl, rfl⟩
  | ambient v =>
    rcases setAmbient_cases v s with ⟨-, -, h⟩ | ⟨-, -, h⟩ | ⟨-, h⟩ <;> rw [h] <;>
      exact ⟨rfl, rfl, rfl, rfl, rfl, rfl, rfl⟩
  | _ => exact ⟨rfl, rfl, rfl, rfl, rfl, rfl, rfl⟩

/-! ### Which rows change each field -/

section
variable {i : Instr} {g : State → State} (hg : Action i g) (s : State)
include hg

theorem Action.storedTemperature_or :
    (g s).dev.storedTemperature = s.dev.storedTemperature ∨ ∃ v, i = .amb v := by
  cases hg with
  | ambient v => exact .inr ⟨v, rfl⟩
  | _ => simp

/-- R144: the two rows that re-evaluate with a new value, and the value each gives. -/
theorem Action.measuredTemperature_or :
    (g s).dev.measuredTemperature = s.dev.measuredTemperature ∨
      (i = .start ∧ s.params.atomicity = .event ∧ (g s).dev.measuredTemperature = s.dev.storedTemperature) ∨
      ∃ v, i = .amb v ∧ s.params.atomicity = .event ∧ s.dev.convertingContinuously = true ∧
        (g s).dev.measuredTemperature = v := by
  cases hg with
  | start =>
    rcases startConvert_cases s with ⟨ha, h⟩ | ⟨-, h⟩
    · exact .inr (.inl ⟨rfl, ha, by simp [h]⟩)
    · exact .inl (by rw [h])
  | ambient v =>
    rcases setAmbient_cases v s with ⟨ha, hc, h⟩ | ⟨-, -, h⟩ | ⟨-, h⟩
    · exact .inr (.inr ⟨v, rfl, ha, hc, by simp [h]⟩)
    · exact .inl (by rw [h])
    · exact .inl (by rw [h])
  | _ => simp

theorem Action.thresholdHigh_or : (g s).dev.thresholdHigh = s.dev.thresholdHigh ∨
    (∃ b, i = .wdata b) ∧ s.dev.pendingByteCount = 1#8 ∧ s.dev.writeTarget = .th := by
  cases hg with
  | dataByte b => exact (dataByte_thresholdHigh b s) ▸ (writeByte_thresholdHigh_or b s.dev).imp_right fun h => ⟨⟨b, rfl⟩, h⟩
  | _ => simp

theorem Action.thresholdLow_or : (g s).dev.thresholdLow = s.dev.thresholdLow ∨
    (∃ b, i = .wdata b) ∧ s.dev.pendingByteCount = 1#8 ∧ s.dev.writeTarget = .tl := by
  cases hg with
  | dataByte b => exact (dataByte_thresholdLow b s) ▸ (writeByte_thresholdLow_or b s.dev).imp_right fun h => ⟨⟨b, rfl⟩, h⟩
  | _ => simp

theorem Action.config_or :
    (g s).dev.config = s.dev.config ∨ i = .start ∨ (∃ b, i = .wdata b) ∨ ∃ v, i = .amb v := by
  cases hg with
  | start => exact .inr (.inl rfl)
  | dataByte b => exact .inr (.inr (.inl ⟨b, rfl⟩))
  | ambient v => exact .inr (.inr (.inr ⟨v, rfl⟩))
  | _ => simp

/-- R142, D27: a row keeps the set flags, or is the byte that completes a CONFIG write. -/
theorem Action.keepsFlags_or : KeepsFlags s.dev.config (g s).dev.config ∨
    ∃ b, i = .wdata b ∧ s.dev.pendingByteCount = 1#8 ∧ s.dev.writeTarget = .config ∧ (g s).dev.config = b := by
  cases hg with
  | start => exact .inl (startConvert_keepsFlags s)
  | ambient v => exact .inl (setAmbient_keepsFlags v s)
  | dataByte b => exact (dataByte_keepsFlags_or b s).imp_right fun h => ⟨b, rfl, h⟩
  | _ => exact .inl (.of_eq (by simp))

theorem Action.outputPinActive_or :
    (g s).dev.outputPinActive = s.dev.outputPinActive ∨ i = .start ∨ (∃ b, i = .wdata b) ∨ ∃ v, i = .amb v := by
  cases hg with
  | start => exact .inr (.inl rfl)
  | dataByte b => exact .inr (.inr (.inl ⟨b, rfl⟩))
  | ambient v => exact .inr (.inr (.inr ⟨v, rfl⟩))
  | _ => simp

theorem Action.readCounter_or : (g s).dev.readCounter = s.dev.readCounter ∨ i = .rdtemp := by
  cases hg <;> simp

theorem Action.readSlope_or : (g s).dev.readSlope = s.dev.readSlope ∨ i = .rdtemp := by
  cases hg <;> simp

theorem Action.convertingContinuously_or :
    (g s).dev.convertingContinuously = s.dev.convertingContinuously ∨ i = .start ∨ i = .stop := by
  cases hg <;> simp

theorem Action.transferBuffer_or :
    (g s).dev.transferBuffer = s.dev.transferBuffer ∨ i ∈ Instr.selects ∨ ∃ b, i = .wdata b := by
  cases hg with
  | select image hi hc => exact .inr (.inl hi)
  | readTemperature => exact .inr (.inl (by decide))
  | dataByte b => exact .inr (.inr ⟨b, rfl⟩)
  | _ => simp

theorem Action.emitted_or : (g s).emitted = s.emitted ∨ i = .rdata ∨ i = .rpe := by
  cases hg <;> simp

/-- The rows that count or end a transfer are those that select a register, pass a byte, or abandon it. -/
theorem Action.transfer_or :
    ((g s).dev.pendingByteCount = s.dev.pendingByteCount ∧ (g s).dev.writeTarget = s.dev.writeTarget) ∨
      i ∈ Instr.selects ∨ (∃ b, i = .wdata b) ∨ i = .rdata ∨ (∃ b, i = .unknown b) ∨ i = .ws := by
  cases hg with
  | select image hi hc => exact .inr (.inl hi)
  | readTemperature => exact .inr (.inl (by decide))
  | dataByte b => exact .inr (.inr (.inl ⟨b, rfl⟩))
  | readByte => exact .inr (.inr (.inr (.inl rfl)))
  | abandon hi => exact .inr (.inr (.inr (.inr hi)))
  | _ => simp

end

/-! ### The obligation -/

/-- A row belongs to the interface its instruction arrives on. -/
theorem row_agent (i : Instr) (s : State) : (s.row i).agent = i.agent := by
  cases i with
  | wb b | wdata b => exact decodeWritten_agent _ _ b
  | rdata | rq | rc => exact decodeRead_agent _
  | _ => rfl

theorem agent_of_transfer {r : Instr}
    (h : r ∈ Instr.selects ∨ (∃ b, r = .wdata b) ∨ r = .rdata ∨ (∃ b, r = .unknown b) ∨ r = .ws) :
    r.agent = .transport ∧ r ≠ .start ∧ r ≠ .stop ∧ r ≠ .rs ∧ r ≠ .sp ∧ r ≠ .rpe := by
  rcases h with h | ⟨b, rfl⟩ | rfl | ⟨b, rfl⟩ | rfl
  case inl =>
    simp only [Instr.selects, List.mem_cons, List.not_mem_nil, or_false] at h
    rcases h with rfl | rfl | rfl | rfl | rfl | rfl <;> decide
  all_goals simp [Instr.agent]

/-- Settles O41: an instruction acts as its row, and each field names the rows that can change it. -/
theorem eachFieldHasItsWriters : Obligations.EachFieldHasItsWriters := by
  intro i s
  obtain ⟨g, hg, he⟩ := exec_action i s
  refine ⟨g s, he s rfl, (hg.storedTemperature_or s).resolve_left, fun h => ?_, (hg.thresholdHigh_or s).resolve_left,
    (hg.thresholdLow_or s).resolve_left, (hg.config_or s).resolve_left, (hg.outputPinActive_or s).resolve_left,
    (hg.readCounter_or s).resolve_left, (hg.readSlope_or s).resolve_left,
    (hg.convertingContinuously_or s).resolve_left, (hg.transferBuffer_or s).resolve_left,
    (hg.emitted_or s).resolve_left, fun h => ?_, hg.sameOutside s⟩
  · exact ((hg.measuredTemperature_or s).resolve_left h).imp And.left fun ⟨v, hv, _⟩ => ⟨v, hv⟩
  · rw [← row_agent i s]
    exact agent_of_transfer ((hg.transfer_or s).resolve_left fun ⟨hp, ht⟩ => h.elim (absurd hp) (absurd ht))

end Sys2Proof.Machine
end

section
/-! What every step keeps (10_state.md R22, R38, R43, 42_reeval.md R142, R144, 20_memory.md R57): a step as the scheduled
agent's move, in which an issued operation is a row's action, and then each property over the moves. -/

namespace Sys2Proof.Machine

/-! ### What a later sub-step does -/

/-- The block after `T`'s sub-step: re-evaluated with the value held, or converting, or as it was (R226). -/
theorem resumeTransport_dev_cases (s : State) :
    s.resumeTransport.dev = s.dev ∨ s.resumeTransport.dev = s.dev.enterContinuous ∨
      ∃ m, (s.tLocal = .startSampled m ∨ s.tLocal = .thresholdSampled (some m)) ∧
        s.resumeTransport.dev = reEval m s.dev := by
  cases h : s.tLocal with
  | idle => exact .inl (by rw [resumeTransport_idle h])
  | startSampled m => exact .inr (.inr ⟨m, .inl rfl, by rw [resumeTransport_startSampled h]⟩)
  | startReevaluated => exact .inr (.inl (by rw [resumeTransport_startReevaluated h]))
  | thresholdStored c => exact .inl (by rw [resumeTransport_thresholdStored h])
  | thresholdSampled m =>
    cases m with
    | none => exact .inl (by rw [resumeTransport_thresholdSampled_none h])
    | some m => exact .inr (.inr ⟨m, .inr rfl, by rw [resumeTransport_thresholdSampled_some h]⟩)

/-- The block after `A`'s sub-step: re-evaluated with the value held, or as it was (R226). -/
theorem resumeAmbient_dev_cases (s : State) :
    s.resumeAmbient.dev = s.dev ∨
      ∃ v, s.aLocal = .tested v true ∧ s.resumeAmbient.dev = reEval v s.dev := by
  cases h : s.aLocal with
  | idle => exact .inl (by rw [resumeAmbient_idle h])
  | stored v => exact .inl (by rw [resumeAmbient_stored h])
  | tested v c =>
    cases c with
    | true => exact .inr ⟨v, rfl, by rw [resumeAmbient_tested h]; rfl⟩
    | false => exact .inl (by rw [resumeAmbient_tested h]; rfl)

/-- `T`'s sub-step writes the block and what `T` holds, and nothing else. -/
theorem resumeTransport_eq (s : State) :
    s.resumeTransport = { s with dev := s.resumeTransport.dev, tLocal := s.resumeTransport.tLocal } := by
  unfold State.resumeTransport
  split <;> rfl

/-- `A`'s sub-step writes the block and what `A` holds, and nothing else. -/
theorem resumeAmbient_eq (s : State) :
    s.resumeAmbient = { s with dev := s.resumeAmbient.dev, aLocal := s.resumeAmbient.aLocal } := by
  unfold State.resumeAmbient
  split <;> rfl

section
variable (s : State)
@[simp] theorem resumeTransport_params : s.resumeTransport.params = s.params := by rw [resumeTransport_eq]
@[simp] theorem resumeTransport_attached : s.resumeTransport.attached = s.attached := by rw [resumeTransport_eq]
@[simp] theorem resumeTransport_aLocal : s.resumeTransport.aLocal = s.aLocal := by rw [resumeTransport_eq]
@[simp] theorem resumeTransport_emitted : s.resumeTransport.emitted = s.emitted := by rw [resumeTransport_eq]
@[simp] theorem resumeAmbient_params : s.resumeAmbient.params = s.params := by rw [resumeAmbient_eq]
@[simp] theorem resumeAmbient_attached : s.resumeAmbient.attached = s.attached := by rw [resumeAmbient_eq]
@[simp] theorem resumeAmbient_tLocal : s.resumeAmbient.tLocal = s.tLocal := by rw [resumeAmbient_eq]
@[simp] theorem resumeAmbient_emitted : s.resumeAmbient.emitted = s.emitted := by rw [resumeAmbient_eq]
end

/-- What the transport reads from (R57): the transfer scratch, the counter, the slope and the bytes given so far. -/
def State.SameRead (s u : State) : Prop :=
  u.dev.transferBuffer = s.dev.transferBuffer ∧ u.dev.pendingByteCount = s.dev.pendingByteCount ∧
    u.dev.writeTarget = s.dev.writeTarget ∧ u.dev.readCounter = s.dev.readCounter ∧
    u.dev.readSlope = s.dev.readSlope ∧ u.emitted = s.emitted

theorem setAmbient_sameRead (v : I32) (s : State) : s.SameRead (s.setAmbient v) := by simp [State.SameRead]

theorem resumeTransport_sameRead (s : State) : s.SameRead s.resumeTransport := by
  rcases resumeTransport_dev_cases s with h | h | ⟨m, -, h⟩ <;> simp [State.SameRead, h]

theorem resumeAmbient_sameRead (s : State) : s.SameRead s.resumeAmbient := by
  rcases resumeAmbient_dev_cases s with h | ⟨v, -, h⟩ <;> simp [State.SameRead, h]

/-- Settles O42: the three moves keep what a read goes by. -/
theorem readsInProgressAreSnapshots : Obligations.ReadsInProgressAreSnapshots := by
  intro s v
  refine ⟨_, exec_amb s v, fun u hu => ?_⟩
  simp only [List.mem_cons, List.not_mem_nil, or_false] at hu
  rcases hu with rfl | rfl | rfl
  exacts [setAmbient_sameRead v s, resumeAmbient_sameRead s, resumeTransport_sameRead s]

/-! ### A step as a move -/

/-- The operation issued is the row it decodes to, and still is once the turn and the operation are used up. -/
theorem row_decode (s : State) (o : Operation) : (s.endTurn.dequeue o).row (s.decode o) = s.decode o := by
  rw [row_congr (s := s) (by simp) (by simp), State.decode, decodeOperation_eq_row, row_row]

/-- Everything a step can be, with an issued operation as its row's action. -/
theorem step_moves {s t : State} (h : step s = .next t) :
    (s.activity = .wait ∧ t = s.endTurn) ∨
      (∃ o, s.activity = .lifecycle o ∧ t = s.endTurn.dequeueLifecycle.lifecycle o) ∨
      (s.activity = .resumeTransport ∧ t = s.endTurn.resumeTransport) ∨
      (s.activity = .resumeAmbient ∧ t = s.endTurn.resumeAmbient) ∨
      ∃ o g, s.activity = .issue o ∧ Action (s.decode o) g ∧ t = g (s.endTurn.dequeue o) := by
  obtain ⟨-, h | h | h | h | ⟨o, ha, -, h⟩⟩ := step_cases h
  · exact .inl h
  · exact .inr (.inl h)
  · exact .inr (.inr (.inl h))
  · exact .inr (.inr (.inr (.inl h)))
  · obtain ⟨g, hg, ht⟩ := action_of_exec h
    exact .inr (.inr (.inr (.inr ⟨o, g, ha, row_decode s o ▸ hg, ht⟩)))

theorem lifecycle_params (o : LifecycleOp) (s : State) : (s.lifecycle o).params = s.params := by
  obtain ⟨b, h⟩ := lifecycle_cases o s
  rw [h]

/-- Settles O49: no move writes the parameters. -/
theorem stepKeepsParameters : Obligations.StepKeepsParameters := by
  intro s t h
  rcases step_moves h with ⟨-, rfl⟩ | ⟨o, -, rfl⟩ | ⟨-, rfl⟩ | ⟨-, rfl⟩ | ⟨o, g, -, hg, rfl⟩
  · exact endTurn_params s
  · exact lifecycle_params o _
  · exact resumeTransport_params _
  · exact resumeAmbient_params _
  · exact (hg.sameOutside _).1.trans (dequeue_params _ o)

/-! ### The flags and the measured value over a step -/

theorem decode_agent (s : State) (o : Operation) : (s.decode o).agent = o.agent := decodeOperation_agent _ _ o

theorem decode_eq_amb {s : State} {o : Operation} {v : I32} (h : s.decode o = .amb v) : o = .ambient v := by
  have ho : o.agent = .ambient := by rw [← decode_agent s, h]; rfl
  cases o with
  | ambient w => exact congrArg _ (Instr.amb.inj h)
  | transport _ | diagnostic _ => cases ho

/-- A step keeps the set flags unless it completes a CONFIG write or is a lifecycle step. -/
theorem step_keepsFlags_or {s t : State} (h : step s = .next t) : KeepsFlags s.dev.config t.dev.config ∨
    (∃ o b, s.activity = .issue o ∧ s.decode o = .wdata b ∧ s.dev.pendingByteCount = 1#8 ∧
      s.dev.writeTarget = .config ∧ t.dev.config = b) ∨ ∃ o, s.activity = .lifecycle o := by
  rcases step_moves h with ⟨-, rfl⟩ | ⟨o, ho, rfl⟩ | ⟨-, rfl⟩ | ⟨-, rfl⟩ | ⟨o, g, ho, hg, rfl⟩
  · exact .inl (.of_eq rfl)
  · exact .inr (.inr ⟨o, ho⟩)
  · left
    rcases resumeTransport_dev_cases s.endTurn with h | h | ⟨m, -, h⟩ <;> rw [h]
    exacts [.of_eq rfl, .of_eq (enterContinuous_config _), reEval_keepsFlags m s.dev]
  · left
    rcases resumeAmbient_dev_cases s.endTurn with h | ⟨v, -, h⟩ <;> rw [h]
    exacts [.of_eq rfl, reEval_keepsFlags v s.dev]
  · rcases hg.keepsFlags_or (s.endTurn.dequeue o) with h | ⟨b, hi, hp, ht, hb⟩
    · exact .inl (by simpa using h)
    · exact .inr (.inl ⟨o, b, ho, hi, by simpa using hp, by simpa using ht, hb⟩)

/-- Settles O33: where the flags are not kept, a flag that went out is the byte's bit. -/
theorem flagsClearedOnlyByConfigWrite : Obligations.FlagsClearedOnlyByConfigWrite := by
  intro s t h
  rcases step_keepsFlags_or h with ⟨hh, hl⟩ | ⟨o, b, ho, hd, hp, ht, rfl⟩ | hl
  · exact ⟨fun h1 h0 => by simp [hh h1] at h0, fun h1 h0 => by simp [hl h1] at h0⟩
  · exact ⟨fun _ h0 => .inl ⟨o, _, ho, hd, hp, ht, h0⟩, fun _ h0 => .inl ⟨o, _, ho, hd, hp, ht, h0⟩⟩
  · exact ⟨fun _ _ => .inr hl, fun _ _ => .inr hl⟩

/-- Settles O34: by the move, and for an issued operation by its row. -/
theorem measuredChangesOnlyAtCallSites : Obligations.MeasuredChangesOnlyAtCallSites := by
  intro s t h hne
  rcases step_moves h with ⟨-, rfl⟩ | ⟨o, ho, rfl⟩ | ⟨ha, rfl⟩ | ⟨ha, rfl⟩ | ⟨o, g, ho, hg, rfl⟩
  · exact absurd rfl hne
  · exact .inr (.inr (.inr (.inr ⟨o, ho⟩)))
  · rcases resumeTransport_dev_cases s.endTurn with h | h | ⟨m, hm, h⟩ <;> rw [h] at hne ⊢
    · exact absurd rfl hne
    · exact absurd (enterContinuous_measuredTemperature _) hne
    · exact .inr (.inr (.inl ⟨m, ha, hm, reEval_measuredTemperature m _⟩))
  · rcases resumeAmbient_dev_cases s.endTurn with h | ⟨v, hv, h⟩ <;> rw [h] at hne ⊢
    · exact absurd rfl hne
    · exact .inr (.inr (.inr (.inl ⟨v, ha, hv, reEval_measuredTemperature v _⟩)))
  · rcases hg.measuredTemperature_or (s.endTurn.dequeue o) with h | ⟨hi, he, h⟩ | ⟨v, hi, he, hc, h⟩
    · exact absurd (by simpa using h) hne
    · exact .inl ⟨o, ho, hi, by simpa using he, by simpa using h⟩
    · exact .inr (.inl ⟨v, decode_eq_amb hi ▸ ho, by simpa using he, by simpa using hc, h⟩)

end Sys2Proof.Machine
end

section
/-! The invariant of the machine (10_state.md R38, 70_reset_and_hazards.md R226): first what keeps the block well-formed,
then what each agent's move keeps of the rest, then the step. -/

namespace Sys2Proof.Machine

/-! ### What keeps the block well-formed -/

/-- Well-formedness reads only pending and the target. -/
theorem DeviceState.WellFormed.congr {d e : DeviceState} (h : d.WellFormed)
    (hp : e.pendingByteCount = d.pendingByteCount) (ht : e.writeTarget = d.writeTarget) : e.WellFormed :=
  ⟨hp ▸ h.pending_le_two, by rw [hp, ht]; exact h.idle_target, by rw [hp, ht]; exact h.config_pending⟩

/-- A transfer that has ended or was abandoned is idle whatever the rest of the block holds. -/
theorem wellFormed_of_idle {d : DeviceState} (hp : d.pendingByteCount = 0#8) (ht : d.writeTarget = .none) :
    d.WellFormed :=
  ⟨by rw [hp]; decide, fun _ => ht, fun h => by rw [ht] at h; cases h⟩

theorem select_wellFormed {count : Byte} {target : WriteTarget}
    (hc : count = 1#8 ∨ count = 2#8 ∧ target ≠ .config) (image : U16) (d : DeviceState) :
    (d.select count image target).WellFormed := by
  rcases hc with rfl | ⟨rfl, ht⟩
  · exact ⟨by simp, fun h => absurd h (by simp), fun _ => by simp⟩
  · exact ⟨by simp, fun h => absurd h (by simp), fun h => absurd h ht⟩

/-- Counting down from 2 keeps the target, which is not CONFIG then. -/
theorem DeviceState.WellFormed.count_down {d e : DeviceState} (h : d.WellFormed) (h0 : d.pendingByteCount ≠ 0#8)
    (h1 : d.pendingByteCount ≠ 1#8) (hp : e.pendingByteCount = d.pendingByteCount - 1#8) : e.WellFormed := by
  have h2 : d.pendingByteCount = 2#8 := by have := h.pending_le_two; bv_omega
  rw [h2] at hp
  exact ⟨by rw [hp]; decide, fun h => absurd (hp.symm.trans h) (by decide), fun _ => by rw [hp]; decide⟩

theorem DeviceState.WellFormed.writeByte {d : DeviceState} (h : d.WellFormed) (h0 : d.pendingByteCount ≠ 0#8)
    (b : Byte) : (d.writeByte b).WellFormed := by
  rcases writeByte_cases b d with ⟨h1, hw⟩ | ⟨h1, hw⟩ <;> rw [hw]
  · exact h.count_down h0 h1 rfl
  · exact wellFormed_of_idle (by simp [h1]) (commit_writeTarget _)

theorem DeviceState.WellFormed.afterRead {d : DeviceState} (h : d.WellFormed) (h0 : d.pendingByteCount ≠ 0#8) :
    d.afterRead.WellFormed := by
  unfold DeviceState.afterRead
  split_ifs with h1
  · exact wellFormed_of_idle rfl rfl
  · exact h.count_down h0 (mt sub_one_eq_zero_iff.2 h1) rfl

/-! ### What a row of the transport keeps -/

@[simp] theorem dataByte_pendingByteCount (b : Byte) (s : State) :
    (s.dataByte b).dev.pendingByteCount = (s.dev.writeByte b).pendingByteCount := by
  rcases dataByte_cases b s with ⟨-, h⟩ | ⟨-, -, h⟩ | ⟨-, -, h⟩ <;> simp [h]

@[simp] theorem dataByte_writeTarget (b : Byte) (s : State) :
    (s.dataByte b).dev.writeTarget = (s.dev.writeByte b).writeTarget := by
  rcases dataByte_cases b s with ⟨-, h⟩ | ⟨-, -, h⟩ | ⟨-, -, h⟩ <;> simp [h]

/-- Every row keeps the block well-formed, if a byte row runs only with bytes pending. -/
theorem Action.keeps_wellFormed {i : Instr} {g : State → State} (hg : Action i g) {s : State} (h : s.dev.WellFormed)
    (hf : i.fitsPending s.dev.pendingByteCount = true) : (g s).dev.WellFormed := by
  cases hg with
  | select image hi hc => exact select_wellFormed hc _ _
  | readTemperature => exact select_wellFormed (.inr ⟨rfl, by decide⟩) _ _
  | start => exact h.congr (startConvert_pendingByteCount s) (startConvert_writeTarget s)
  | abandon hi => exact wellFormed_of_idle rfl rfl
  | dataByte b =>
    exact (h.writeByte (of_decide_eq_true hf) b).congr (dataByte_pendingByteCount b s) (dataByte_writeTarget b s)
  | readByte =>
    have h0 : s.dev.pendingByteCount ≠ 0#8 := of_decide_eq_true hf
    rw [State.readByte, if_neg h0]
    exact h.afterRead h0
  | ambient v => exact h.congr (setAmbient_pendingByteCount v s) (setAmbient_writeTarget v s)
  | stop | keep _ | readPastEnd | answer _ _ => exact h.congr rfl rfl

/-! ### What the agents hold between sub-steps -/

/-- What R226 says of `T`'s unfinished operation: the transfer is idle, and the sample is still true of the block. -/
def State.TransportSampled (s : State) : Prop :=
  (s.tLocal ≠ .idle → s.dev.pendingByteCount = 0#8) ∧
    (∀ c, s.tLocal = .thresholdStored c → c = s.dev.convertingContinuously) ∧
    ∀ m, s.tLocal = .thresholdSampled m → m.isSome = s.dev.convertingContinuously

/-- What R226 says of `A`'s unfinished operation: the value held is still the stored temperature. -/
def State.AmbientSampled (s : State) : Prop :=
  (∀ v, s.aLocal = .stored v → s.dev.storedTemperature = v) ∧
    ∀ v c, s.aLocal = .tested v c → s.dev.storedTemperature = v

/-- R225: under `EVENT` no operation is divided. -/
def State.EventUndivided (s : State) : Prop :=
  s.params.atomicity = .event → s.tLocal = .idle ∧ s.aLocal = .idle

theorem inv_iff (s : State) :
    s.Inv ↔ s.dev.WellFormed ∧ s.EventUndivided ∧ s.TransportSampled ∧ s.AmbientSampled :=
  ⟨fun ⟨h, hu, h1, h2, h3, h4, h5⟩ => ⟨h, hu, ⟨h1, h2, h3⟩, h4, h5⟩,
    fun ⟨h, hu, ⟨h1, h2, h3⟩, h4, h5⟩ => ⟨h, hu, h1, h2, h3, h4, h5⟩⟩

theorem transportSampled_of_idle {s : State} (h : s.tLocal = .idle) : s.TransportSampled := by
  simp [State.TransportSampled, h]

theorem ambientSampled_of_idle {s : State} (h : s.aLocal = .idle) : s.AmbientSampled := by
  simp [State.AmbientSampled, h]

theorem State.TransportSampled.congr {s t : State} (h : s.TransportSampled) (hl : t.tLocal = s.tLocal)
    (hp : t.dev.pendingByteCount = s.dev.pendingByteCount)
    (hc : t.dev.convertingContinuously = s.dev.convertingContinuously) : t.TransportSampled := by
  rwa [State.TransportSampled, hl, hp, hc]

theorem State.AmbientSampled.congr {s t : State} (h : s.AmbientSampled) (hl : t.aLocal = s.aLocal)
    (hs : t.dev.storedTemperature = s.dev.storedTemperature) : t.AmbientSampled := by
  rwa [State.AmbientSampled, hl, hs]

/-- The invariant reads the parameters, the block and what the agents hold. -/
theorem inv_congr {s t : State} (h : s.Inv) (hp : t.params = s.params) (hd : t.dev = s.dev)
    (hT : t.tLocal = s.tLocal) (hA : t.aLocal = s.aLocal) : t.Inv := by
  obtain ⟨hw, hu, ht, ha⟩ := (inv_iff s).1 h
  refine (inv_iff t).2 ⟨hd ▸ hw, ?_, ht.congr hT (by rw [hd]) (by rw [hd]), ha.congr hA (by rw [hd])⟩
  rwa [State.EventUndivided, hp, hT, hA]

/-- The attach record with no operation unfinished, under any parameters (R220). -/
theorem inv_of_atAttach {s : State} {p : Config} (hd : s.dev = DeviceState.atAttach p) (hT : s.tLocal = .idle)
    (hA : s.aLocal = .idle) : s.Inv :=
  (inv_iff s).2 ⟨hd ▸ wellFormed_of_idle rfl rfl, fun _ => ⟨hT, hA⟩, transportSampled_of_idle hT,
    ambientSampled_of_idle hA⟩

/-! ### What a row leaves unfinished -/

/-- Only Start Convert and the last byte of a threshold write, and only under `SPLIT`, leave `T` inside an operation. -/
theorem Action.tLocal_or {i : Instr} {g : State → State} (hg : Action i g) (s : State) :
    (g s).tLocal = s.tLocal ∨ s.params.atomicity = .split ∧
      ((i = .start ∧ ∃ m, (g s).tLocal = .startSampled m) ∨
        (g s).dev.pendingByteCount = 0#8 ∧ (g s).tLocal = .thresholdStored (g s).dev.convertingContinuously) := by
  cases hg with
  | start =>
    rcases startConvert_cases s with ⟨-, h⟩ | ⟨ha, h⟩ <;> rw [h]
    · exact .inl rfl
    · exact .inr ⟨ha, .inl ⟨rfl, _, rfl⟩⟩
  | dataByte b =>
    rcases dataByte_cases b s with ⟨-, h⟩ | ⟨-, -, h⟩ | ⟨hc, ha, h⟩ <;> rw [h]
    · exact .inl rfl
    · exact .inl rfl
    · obtain ⟨hp, -⟩ := (completesThreshold_iff _).1 hc
      exact .inr ⟨ha, .inr ⟨by simp [writeByte_of_eq_one hp, hp], rfl⟩⟩
  | readByte =>
    rcases readByte_cases s with ⟨-, h⟩ | ⟨-, h⟩ <;> rw [h]
    · exact .inl (readPastEnd_tLocal s)
    · exact .inl rfl
  | ambient v => rcases setAmbient_cases v s with ⟨-, -, h⟩ | ⟨-, -, h⟩ | ⟨-, h⟩ <;> exact .inl (by rw [h])
  | _ => exact .inl rfl

/-- Only an ambient update, and only under `SPLIT`, leaves `A` inside an operation. -/
theorem Action.aLocal_or {i : Instr} {g : State → State} (hg : Action i g) (s : State) :
    (g s).aLocal = s.aLocal ∨ s.params.atomicity = .split ∧ ∃ v, i = .amb v ∧
      (g s).aLocal = .stored v ∧ (g s).dev.storedTemperature = v := by
  cases hg with
  | start => rcases startConvert_cases s with ⟨-, h⟩ | ⟨-, h⟩ <;> exact .inl (by rw [h])
  | dataByte b => rcases dataByte_cases b s with ⟨-, h⟩ | ⟨-, -, h⟩ | ⟨-, -, h⟩ <;> exact .inl (by rw [h])
  | readByte =>
    rcases readByte_cases s with ⟨-, h⟩ | ⟨-, h⟩ <;> rw [h]
    · exact .inl (readPastEnd_aLocal s)
    · exact .inl rfl
  | ambient v =>
    rcases setAmbient_cases v s with ⟨-, -, h⟩ | ⟨-, -, h⟩ | ⟨ha, h⟩
    · exact .inl (by rw [h])
    · exact .inl (by rw [h])
    · exact .inr ⟨ha, v, rfl, by rw [h], by rw [h]⟩
  | _ => exact .inl rfl

section
variable {i : Instr} {g : State → State} (hg : Action i g) {s : State}
include hg

theorem Action.keeps_eventUndivided (h : s.EventUndivided) : (g s).EventUndivided := by
  intro he
  rw [(hg.sameOutside s).1] at he
  have hT := (hg.tLocal_or s).resolve_right fun ⟨ha, _⟩ => by simp [he] at ha
  have hA := (hg.aLocal_or s).resolve_right fun ⟨ha, _⟩ => by simp [he] at ha
  rw [hT, hA]
  exact h he

/-- `T`'s samples hold of what its own row leaves unfinished, and no other agent's row changes what they speak of. -/
theorem Action.keeps_transportSampled (h : s.TransportSampled) (hf : i.fitsPending s.dev.pendingByteCount = true)
    (hT : i.agent = .transport → s.tLocal = .idle) : (g s).TransportSampled := by
  rcases hg.tLocal_or s with hl | ⟨-, ⟨rfl, m, hl⟩ | ⟨hp, hl⟩⟩
  · by_cases hi : i.agent = .transport
    · exact transportSampled_of_idle (hl.trans (hT hi))
    · have hp := (hg.transfer_or s).resolve_right fun hr => hi (agent_of_transfer hr).1
      have hc := (hg.convertingContinuously_or s).resolve_right fun hr => hi (by rcases hr with rfl | rfl <;> rfl)
      exact h.congr hl hp.1 hc
  · have hp := ((hg.transfer_or s).resolve_right (by simp [Instr.selects])).1
    have h0 : s.dev.pendingByteCount = 0#8 := of_decide_eq_true hf
    simp [State.TransportSampled, hl, hp, h0]
  · simp [State.TransportSampled, hl, hp]

/-- `A`'s own row leaves the value it stored, and no other agent's row stores a temperature. -/
theorem Action.keeps_ambientSampled (h : s.AmbientSampled) (hA : i.agent = .ambient → s.aLocal = .idle) :
    (g s).AmbientSampled := by
  rcases hg.aLocal_or s with hl | ⟨-, v, rfl, hl, hv⟩
  · by_cases hi : i.agent = .ambient
    · exact ambientSampled_of_idle (hl.trans (hA hi))
    · exact h.congr hl ((hg.storedTemperature_or s).resolve_right fun ⟨v, hr⟩ => hi (hr ▸ rfl))
  · simp [State.AmbientSampled, hl, hv]

end

/-- A row keeps the invariant if it fits pending and its agent is between operations, which is how the step runs it. -/
theorem Action.keeps_inv {i : Instr} {g : State → State} (hg : Action i g) {s : State} (h : s.Inv)
    (hf : i.fitsPending s.dev.pendingByteCount = true) (hT : i.agent = .transport → s.tLocal = .idle)
    (hA : i.agent = .ambient → s.aLocal = .idle) : (g s).Inv := by
  obtain ⟨hw, hu, ht, ha⟩ := (inv_iff s).1 h
  exact (inv_iff _).2 ⟨hg.keeps_wellFormed hw hf, hg.keeps_eventUndivided hu, hg.keeps_transportSampled ht hf hT,
    hg.keeps_ambientSampled ha hA⟩

/-! ### What a later sub-step keeps -/

theorem resumeTransport_wellFormed {s : State} (h : s.dev.WellFormed) : s.resumeTransport.dev.WellFormed := by
  obtain ⟨-, hp, ht, -⟩ := resumeTransport_sameRead s
  exact h.congr hp ht

theorem resumeAmbient_wellFormed {s : State} (h : s.dev.WellFormed) : s.resumeAmbient.dev.WellFormed := by
  obtain ⟨-, hp, ht, -⟩ := resumeAmbient_sameRead s
  exact h.congr hp ht

/-- TW.2 takes the measured value exactly if the sample of TW.1 was true; after SC.3 and TW.3 nothing is held. -/
theorem resumeTransport_transportSampled {s : State} (h : s.TransportSampled) : s.resumeTransport.TransportSampled := by
  obtain ⟨hp, hc, -⟩ := h
  cases hl : s.tLocal with
  | idle => exact transportSampled_of_idle (by rw [resumeTransport_idle hl, hl])
  | startSampled m =>
    rw [resumeTransport_startSampled hl]
    simp [State.TransportSampled, hp, hl]
  | startReevaluated => exact transportSampled_of_idle (by rw [resumeTransport_startReevaluated hl])
  | thresholdStored c =>
    rw [resumeTransport_thresholdStored hl, hc c hl]
    cases hs : s.dev.convertingContinuously <;> simp [State.TransportSampled, hp, hl, hs]
  | thresholdSampled m =>
    cases m with
    | none => exact transportSampled_of_idle (by rw [resumeTransport_thresholdSampled_none hl])
    | some m => exact transportSampled_of_idle (by rw [resumeTransport_thresholdSampled_some hl])

theorem resumeTransport_storedTemperature (s : State) :
    s.resumeTransport.dev.storedTemperature = s.dev.storedTemperature := by
  rcases resumeTransport_dev_cases s with h | h | ⟨m, -, h⟩ <;> simp [h]

theorem resumeAmbient_convertingContinuously (s : State) :
    s.resumeAmbient.dev.convertingContinuously = s.dev.convertingContinuously := by
  rcases resumeAmbient_dev_cases s with h | ⟨v, -, h⟩ <;> simp [h]

theorem resumeAmbient_ambientSampled {s : State} (h : s.AmbientSampled) : s.resumeAmbient.AmbientSampled := by
  obtain ⟨hv, -⟩ := h
  cases hl : s.aLocal with
  | idle => exact ambientSampled_of_idle (by rw [resumeAmbient_idle hl, hl])
  | stored v =>
    rw [resumeAmbient_stored hl]
    simp [State.AmbientSampled, hv v hl]
  | tested v c => exact ambientSampled_of_idle (by rw [resumeAmbient_tested hl])

theorem resumeTransport_inv {s : State} (h : s.Inv) : s.resumeTransport.Inv := by
  obtain ⟨hw, hu, ht, ha⟩ := (inv_iff s).1 h
  refine (inv_iff _).2 ⟨resumeTransport_wellFormed hw, fun he => ?_, resumeTransport_transportSampled ht,
    ha.congr (resumeTransport_aLocal s) (resumeTransport_storedTemperature s)⟩
  obtain ⟨hT, hA⟩ := hu (by rwa [resumeTransport_params] at he)
  exact ⟨by rw [resumeTransport_idle hT, hT], (resumeTransport_aLocal s).trans hA⟩

theorem resumeAmbient_inv {s : State} (h : s.Inv) : s.resumeAmbient.Inv := by
  obtain ⟨hw, hu, ht, ha⟩ := (inv_iff s).1 h
  obtain ⟨-, hp, -⟩ := resumeAmbient_sameRead s
  refine (inv_iff _).2 ⟨resumeAmbient_wellFormed hw, fun he => ?_,
    ht.congr (resumeAmbient_tLocal s) hp (resumeAmbient_convertingContinuously s), resumeAmbient_ambientSampled ha⟩
  obtain ⟨hT, hA⟩ := hu (by rwa [resumeAmbient_params] at he)
  exact ⟨(resumeAmbient_tLocal s).trans hT, by rw [resumeAmbient_idle hA, hA]⟩

/-! ### The obligations -/

/-- Settles O48: both states hold an attach record and no unfinished operation. -/
theorem attachEstablishesTransferInvariant : Obligations.AttachEstablishesTransferInvariant :=
  fun _ _ _ _ _ _ => ⟨inv_of_atAttach rfl rfl rfl, inv_of_atAttach rfl rfl rfl⟩

/-- Settles O47: by the move; an issued operation fits pending, and its agent is between operations. -/
theorem stepKeepsTransferInvariant : Obligations.StepKeepsTransferInvariant := by
  intro s t hs h
  have hturn : s.endTurn.Inv := inv_congr hs rfl rfl rfl rfl
  rcases step_moves h with ⟨-, rfl⟩ | ⟨o, -, rfl⟩ | ⟨-, rfl⟩ | ⟨-, rfl⟩ | ⟨o, g, ho, hg, rfl⟩
  · exact hturn
  · obtain ⟨b, hl⟩ := lifecycle_cases o s.endTurn.dequeueLifecycle
    rw [hl]
    exact inv_of_atAttach rfl rfl rfl
  · exact resumeTransport_inv hturn
  · exact resumeAmbient_inv hturn
  · obtain ⟨-, hT, hA⟩ := activity_issue ho
    rw [← decode_agent s] at hT hA
    have hdeq : (s.endTurn.dequeue o).Inv := inv_congr hs (by simp) (by simp) (by simp) (by simp)
    refine hg.keeps_inv hdeq ?_ (by simpa using hT) (by simpa using hA)
    rw [dequeue_dev, endTurn_dev]
    exact (decodeOperation_wf_fits _ _ o).2

end Sys2Proof.Machine
end

section
/-! Sequences of instructions (20_memory.md sections 2 and 3, 44_host.md R184, 70_reset_and_hazards.md R227, R231): a
threshold written and read back, a write cut short, diagnostic reads between other instructions, and Start Convert next
to an ambient update. -/

namespace Sys2Proof.Machine

/-! ### Running a list of instructions -/

theorem execAll_cons {i : Instr} {s t : State} (h : exec i s = .next t) (is : List Instr) :
    execAll (i :: is) s = execAll is t := by
  rw [execAll, h]

theorem execAll_append {is : List Instr} {s t : State} (h : execAll is s = .next t) (js : List Instr) :
    execAll (is ++ js) s = execAll js t := by
  induction is generalizing s with
  | nil => cases h; rfl
  | cons i is ih =>
    obtain ⟨u, hu⟩ := exec_completes i s
    rw [execAll_cons hu] at h
    rw [List.cons_append, execAll_cons hu, ih h]

/-! ### A transfer of two bytes -/

section
variable {s : State}

theorem exec_wb_of_mem_rows (hc : s.params.commands.Distinct) (hp : s.dev.pendingByteCount = 0#8) {i : Instr} {b : Byte}
    (h : (i, b) ∈ s.params.commands.rows) : exec (.wb b) s = exec i s := by
  rw [exec_wb_command hp, decodeCommand_of_mem_rows hc h]

/-- The first of two bytes is only assembled. -/
theorem dataByte_of_two (hp : s.dev.pendingByteCount = 2#8) (b : Byte) :
    s.dataByte b = { s with dev := s.dev.takeByte b } := by
  have h1 : s.dev.pendingByteCount ≠ 1#8 := by rw [hp]; decide
  rw [dataByte_of_not_completes b (completesThreshold_eq_false (.inl h1)), writeByte_of_ne_one h1]

/-- Two bytes fill the buffer, so what a threshold write stores is their word (R75, R163). -/
theorem writeByte_two_th (b1 b2 : Byte) (w : U16) (d : DeviceState) :
    (((d.select 2#8 w .th).takeByte b1).writeByte b2).thresholdHigh = wordOfBytes b1 b2 ∧
      (((d.select 2#8 w .th).takeByte b1).writeByte b2).thresholdLow = d.thresholdLow := by
  rw [writeByte_th (by simp) b2 rfl]
  exact ⟨(assembledBufferIsBytesInOrder w b1 b2).1, rfl⟩

theorem writeByte_two_tl (b1 b2 : Byte) (w : U16) (d : DeviceState) :
    (((d.select 2#8 w .tl).takeByte b1).writeByte b2).thresholdLow = wordOfBytes b1 b2 ∧
      (((d.select 2#8 w .tl).takeByte b1).writeByte b2).thresholdHigh = d.thresholdHigh := by
  rw [writeByte_tl (by simp) b2 rfl]
  exact ⟨(assembledBufferIsBytesInOrder w b1 b2).1, rfl⟩

/-- Two data bytes and a stop, after a threshold is selected. -/
theorem execAll_write_two (he : s.params.atomicity = .event) (hp : s.dev.pendingByteCount = 2#8)
    (ht : s.dev.writeTarget = .th ∨ s.dev.writeTarget = .tl) (b1 b2 : Byte) :
    execAll [.wb b1, .wb b2, .sp] s =
      .next { s with dev := ((s.dev.takeByte b1).writeByte b2).thresholdReEval } := by
  have h1 : (s.dev.takeByte b1).pendingByteCount = 1#8 := by rw [takeByte_pendingByteCount, hp]; rfl
  rw [execAll_cons (exec_wb_data (by rw [hp]; decide) b1), dataByte_of_two hp,
    execAll_cons (exec_wb_data (by rw [h1]; decide) b2),
    dataByte_event (s := { s with dev := s.dev.takeByte b1 }) b2 ((completesThreshold_iff _).2 ⟨h1, ht⟩) he,
    execAll_cons (exec_sp _)]
  rfl

/-- A read stream of two bytes, high byte first (R166). -/
theorem execAll_read_two (hp : s.dev.pendingByteCount = 2#8) :
    execAll [.rs, .rq, .rc, .sp] s =
      .next { s with dev := { s.dev with pendingByteCount := 0#8, writeTarget := .none },
                     emitted := s.emitted ++ [s.dev.transferBuffer.extractLsb' 8 8] ++
                       [s.dev.transferBuffer.extractLsb' 0 8] } := by
  rw [execAll_cons (exec_rs s), execAll_cons (exec_rq s), readByte_of_eq_two hp, execAll_cons (exec_rc _),
    readByte_of_eq_one rfl, execAll_cons (exec_sp _)]
  rfl

end

theorem wordOfBytes_bytes (hi lo : Byte) :
    (wordOfBytes hi lo).extractLsb' 8 8 = hi ∧ (wordOfBytes hi lo).extractLsb' 0 8 = lo := by
  constructor <;> apply BitVec.eq_of_getLsbD_eq <;> intro i hi
  · simp [wordOfBytes, hi, show 8 + i < 16 by omega]
  · simp [wordOfBytes, hi, show i < 16 by omega]

/-! ### A threshold written and read back -/

section
variable {s : State} (hc : s.params.commands.Distinct)
include hc

/-- A write-stream start and the command byte of a row run the row on the abandoned transfer. -/
theorem execAll_open {i : Instr} {b : Byte} {u : State} (h : (i, b) ∈ s.params.commands.rows)
    (hu : exec i { s with dev := s.dev.abandonTransfer } = .next u) (is : List Instr) :
    execAll (.ws :: .wb b :: is) s = execAll is u := by
  have hb := exec_wb_of_mem_rows (s := { s with dev := s.dev.abandonTransfer }) hc rfl h
  rw [execAll_cons (exec_ws s), execAll_cons (hb.trans hu)]

variable (he : s.params.atomicity = .event) (b1 b2 : Byte)

theorem read_th : ∃ t, execAll [.ws, .wb s.params.commands.accessTh, .rs, .rq, .rc, .sp] s = .next t ∧
    t.emitted = s.emitted ++ [s.dev.thresholdHigh.extractLsb' 8 8, s.dev.thresholdHigh.extractLsb' 0 8] ∧
    t.dev.thresholdHigh = s.dev.thresholdHigh ∧ t.dev.thresholdLow = s.dev.thresholdLow := by
  rw [execAll_open hc (i := .accth) (by simp [CommandBytes.rows]) (exec_accth _), execAll_read_two rfl]
  exact ⟨_, rfl, by simp, rfl, rfl⟩

theorem read_tl : ∃ t, execAll [.ws, .wb s.params.commands.accessTl, .rs, .rq, .rc, .sp] s = .next t ∧
    t.emitted = s.emitted ++ [s.dev.thresholdLow.extractLsb' 8 8, s.dev.thresholdLow.extractLsb' 0 8] ∧
    t.dev.thresholdHigh = s.dev.thresholdHigh ∧ t.dev.thresholdLow = s.dev.thresholdLow := by
  rw [execAll_open hc (i := .acctl) (by simp [CommandBytes.rows]) (exec_acctl _), execAll_read_two rfl]
  exact ⟨_, rfl, by simp, rfl, rfl⟩

include he

theorem write_th : ∃ t, execAll [.ws, .wb s.params.commands.accessTh, .wb b1, .wb b2, .sp] s = .next t ∧
    t.params = s.params ∧ t.emitted = s.emitted ∧ t.dev.thresholdHigh = wordOfBytes b1 b2 ∧
    t.dev.thresholdLow = s.dev.thresholdLow := by
  refine ⟨_, (execAll_open hc (i := .accth) (by simp [CommandBytes.rows]) (exec_accth _) _).trans
    (execAll_write_two (by exact he) rfl (.inl rfl) b1 b2), rfl, rfl, ?_⟩
  rw [thresholdReEval_thresholdHigh, thresholdReEval_thresholdLow]
  exact writeByte_two_th b1 b2 _ _

theorem write_tl : ∃ t, execAll [.ws, .wb s.params.commands.accessTl, .wb b1, .wb b2, .sp] s = .next t ∧
    t.params = s.params ∧ t.emitted = s.emitted ∧ t.dev.thresholdLow = wordOfBytes b1 b2 ∧
    t.dev.thresholdHigh = s.dev.thresholdHigh := by
  refine ⟨_, (execAll_open hc (i := .acctl) (by simp [CommandBytes.rows]) (exec_acctl _) _).trans
    (execAll_write_two (by exact he) rfl (.inr rfl) b1 b2), rfl, rfl, ?_⟩
  rw [thresholdReEval_thresholdHigh, thresholdReEval_thresholdLow]
  exact writeByte_two_tl b1 b2 _ _

end

/-- Settles O23: the write leaves the word of the two bytes, and the read returns that word's bytes. -/
theorem thresholdReadsBackAsWritten : Obligations.ThresholdReadsBackAsWritten := by
  intro s b1 b2 he hc
  obtain ⟨hhi, hlo⟩ := wordOfBytes_bytes b1 b2
  constructor
  · obtain ⟨u, hu, hp, hem, hth, htl⟩ := write_th hc he b1 b2
    obtain ⟨t, ht, hemt, htht, htlt⟩ := read_th (hp ▸ hc)
    refine ⟨t, ?_, ?_, htht.trans hth, htlt.trans htl⟩
    · exact (execAll_append hu _).trans (hp ▸ ht)
    · rw [hemt, hem, hth, hhi, hlo]
  · obtain ⟨u, hu, hp, hem, htl, hth⟩ := write_tl hc he b1 b2
    obtain ⟨t, ht, hemt, htht, htlt⟩ := read_tl (hp ▸ hc)
    refine ⟨t, ?_, ?_, htlt.trans htl, htht.trans hth⟩
    · exact (execAll_append hu _).trans (hp ▸ ht)
    · rw [hemt, hem, htl, hhi, hlo]

/-! ### A write cut short -/

/-- After any selection of two bytes, one data byte and a write-stream start write the transfer scratch only. -/
theorem execAll_cut_short {i : Instr} {s : State} {image : U16} {target : WriteTarget} (b : Byte)
    (h : exec i s = .next { s with dev := s.dev.select 2#8 image target }) :
    execAll [i, .wdata b, .ws] s = .next { s with dev := { s.dev with
      pendingByteCount := 0#8, writeTarget := .none, transferBuffer := shiftIn image b } } := by
  rw [execAll_cons h, execAll_cons (exec_wdata_data (by simp) b), dataByte_of_two rfl, execAll_cons (exec_ws _)]
  rfl

/-- Settles O24: both rows select two bytes, so the one byte commits nothing. -/
theorem shortThresholdWriteStoresNothing : Obligations.ShortThresholdWriteStoresNothing := by
  rintro s i b (rfl | rfl)
  · exact ⟨_, execAll_cut_short b (exec_accth s), rfl⟩
  · exact ⟨_, execAll_cut_short b (exec_acctl s), rfl⟩

/-! ### Diagnostic reads -/

/-- The same machine with another schedule and other answers given. -/
def State.withPorts (schedule : List Agent) (f : List DiagnosticAnswer → List DiagnosticAnswer) (s : State) : State :=
  { s with schedule := schedule, answers := f s.answers }

/-- No row reads the schedule or the answers, and only the diagnostic rows write the answers (log 5, log 7). -/
theorem Action.withPorts {i : Instr} {g : State → State} (hg : Action i g) (sched : List Agent)
    {f : List DiagnosticAnswer → List DiagnosticAnswer} (hf : i.agent = .diagnostic → f = id) (s : State) :
    g (s.withPorts sched f) = (g s).withPorts sched f := by
  cases hg with
  | start =>
    simp only [State.startConvert, State.withPorts]
    cases s.params.atomicity <;> rfl
  | dataByte b =>
    rcases dataByte_cases b s with ⟨hc, h⟩ | ⟨hc, ha, h⟩ | ⟨hc, ha, h⟩ <;> rw [h]
    · exact dataByte_of_not_completes (s := s.withPorts sched f) b hc
    · exact dataByte_event (s := s.withPorts sched f) b hc ha
    · rw [dataByte_split (s := s.withPorts sched f) b hc ha, writeByte_convertingContinuously]
      rfl
  | readByte =>
    rcases readByte_cases s with ⟨hp, h⟩ | ⟨hp, h⟩ <;> rw [h]
    · exact if_pos hp
    · exact if_neg hp
  | ambient v =>
    simp only [State.setAmbient, State.withPorts]
    cases s.params.atomicity <;> rfl
  | answer a hi => obtain rfl := hf hi; rfl
  | _ => rfl

theorem exec_withPorts {i : Instr} {s t : State} (h : exec i s = .next t) (sched : List Agent)
    {f : List DiagnosticAnswer → List DiagnosticAnswer} (hf : i.agent = .diagnostic → f = id) :
    exec i (s.withPorts sched f) = .next (t.withPorts sched f) := by
  obtain ⟨g, hg, he⟩ := exec_action i s
  obtain rfl := Host.Outcome.next.inj (h.symm.trans (he s rfl))
  rw [he (s.withPorts sched f) (row_congr rfl rfl i), hg.withPorts sched (by rwa [row_agent])]

/-- A diagnostic read appends an answer that is a function of the block, and does nothing else (R184). -/
theorem exec_diagnostic {q : Instr} (hq : q = .pinq ∨ q = .cfgq ∨ q = .thrq) :
    ∃ a : DeviceState → DiagnosticAnswer,
      ∀ s : State, exec q s = .next (s.withPorts s.schedule (· ++ [a s.dev])) := by
  rcases hq with rfl | rfl | rfl
  · exact ⟨fun d => .pinLevel (pinLevel d), exec_pinq⟩
  · exact ⟨fun d => .rawConfig d.config, exec_cfgq⟩
  · exact ⟨fun d => .thresholds d.thresholdHigh d.thresholdLow, exec_thrq⟩

/-- Settles O30: the read leaves only an answer behind, which no row of `T` and `A` reads. -/
theorem diagnosticReadsCommute : Obligations.DiagnosticReadsCommute := by
  intro s q i hq hi
  obtain ⟨a, ha⟩ := exec_diagnostic hq
  obtain ⟨t, ht⟩ := exec_completes i s
  exact ⟨_, t, _, _, ha s, exec_withPorts ht _ fun h => absurd h hi, ht, ha t, rfl, rfl, rfl, rfl, rfl⟩

/-! ### Start Convert and an ambient update, under `EVENT` -/

@[simp] theorem setAmbient_oneShot (v : I32) (s : State) :
    oneShot (s.setAmbient v).dev.config = oneShot s.dev.config := by
  rcases setAmbient_cases v s with ⟨-, -, h⟩ | ⟨-, -, h⟩ | ⟨-, h⟩ <;> simp [h]

/-- Settles O59: the update after the start finds the block converting, and the start after the update finds the value
stored. -/
theorem eventNeverLosesAmbientUpdate : Obligations.EventNeverLosesAmbientUpdate := by
  rintro s v is he h1 (rfl | rfl)
  · have hs : s.startConvert.dev.convertingContinuously = true := by
      rw [startConvert_event he, enterContinuous_of_not_oneShot (by simpa using h1)]
    have hp : s.startConvert.params.atomicity = .event := by rw [startConvert_event he]; exact he
    refine ⟨s.startConvert.setAmbient v, rfl, by simp, ?_, by simpa using hs⟩
    rw [setAmbient_event v hp, if_pos hs, reEval_measuredTemperature]
  · have hp : (s.setAmbient v).params.atomicity = .event := by rw [setAmbient_event v he]; exact he
    refine ⟨(s.setAmbient v).startConvert, rfl, by simp, ?_, ?_⟩
    · rw [startConvert_event hp]; simp
    · rw [startConvert_event hp, enterContinuous_of_not_oneShot (by simpa using h1)]

end Sys2Proof.Machine
end

section
/-! Divided operations (70_reset_and_hazards.md R224-R228): the sub-steps of `SPLIT` done one after the other are the one
step of `EVENT`, so a run under `EVENT` is a run under `SPLIT` that gives the agent of a divided operation three turns;
and the two interleavings in which a value is lost. -/

namespace Sys2Proof.Machine

/-! ### Sub-steps without interruption -/

theorem asSplit_of_split {s : State} (h : s.params.atomicity = .split) : s.asSplit = s := by
  rw [State.asSplit, ← h]

theorem asEvent_of_event {s : State} (h : s.params.atomicity = .event) : s.asEvent = s := by
  rw [State.asEvent, ← h]

theorem asSplit_asEvent (s : State) : s.asSplit.asEvent = s.asEvent := rfl

/-- SC.2, SC.3. -/
theorem resumeTransport_twice_start {s : State} {m : I32} (h : s.tLocal = .startSampled m) :
    s.resumeTransport.resumeTransport = { s with dev := (reEval m s.dev).enterContinuous, tLocal := .idle } := by
  rw [resumeTransport_startSampled h, resumeTransport_startReevaluated rfl]

/-- TW.2, TW.3, while the sample of TW.1 is true of the block. -/
theorem resumeTransport_twice_threshold {s : State} (h : s.tLocal = .thresholdStored s.dev.convertingContinuously) :
    s.resumeTransport.resumeTransport = { s with dev := s.dev.thresholdReEval, tLocal := .idle } := by
  rw [resumeTransport_thresholdStored h]
  cases hc : s.dev.convertingContinuously with
  | true => rw [resumeTransport_thresholdSampled_some rfl, thresholdReEval_of_converting hc]
  | false => rw [resumeTransport_thresholdSampled_none rfl, thresholdReEval_of_not_converting hc]

/-- AM.2, AM.3. -/
theorem resumeAmbient_twice {s : State} {v : I32} (h : s.aLocal = .stored v) :
    s.resumeAmbient.resumeAmbient =
      { s with dev := if s.dev.convertingContinuously then reEval v s.dev else s.dev, aLocal := .idle } := by
  rw [resumeAmbient_stored h, resumeAmbient_tested rfl]

theorem startConvert_asSplit {s : State} (hT : s.tLocal = .idle) :
    s.asSplit.startConvert.resumeTransport.resumeTransport = s.asEvent.startConvert.asSplit := by
  rw [startConvert_split rfl, resumeTransport_twice_start rfl, startConvert_event rfl, ← hT]
  rfl

theorem dataByte_asSplit {s : State} (hT : s.tLocal = .idle) (hc : s.dev.completesThreshold = true) (b : Byte) :
    (s.asSplit.dataByte b).resumeTransport.resumeTransport = (s.asEvent.dataByte b).asSplit := by
  rw [dataByte_split (s := s.asSplit) b hc rfl, dataByte_event (s := s.asEvent) b hc rfl,
    resumeTransport_twice_threshold (by simp), ← hT]
  rfl

theorem setAmbient_asSplit {s : State} (hA : s.aLocal = .idle) (v : I32) :
    (s.asSplit.setAmbient v).resumeAmbient.resumeAmbient = (s.asEvent.setAmbient v).asSplit := by
  rw [setAmbient_split v rfl, resumeAmbient_twice rfl, setAmbient_event v rfl, ← hA]
  rfl

/-- Settles O55: each divided operation, with the machine between operations. -/
theorem uninterruptedSubStepsAreOneEvent : Obligations.UninterruptedSubStepsAreOneEvent := by
  intro s ha hT hA
  refine ⟨⟨_, _, exec_start s, exec_start s.asEvent, ?_⟩, fun b hp ht => ?_,
    fun v => ⟨_, _, exec_amb s v, exec_amb s.asEvent v, ?_⟩⟩
  · have h := startConvert_asSplit hT
    rw [asSplit_of_split ha] at h
    rw [h, asSplit_asEvent, startConvert_event rfl]
    rfl
  · have h0 : s.dev.pendingByteCount ≠ 0#8 := by rw [hp]; decide
    have hc := (completesThreshold_iff _).2 ⟨hp, ht⟩
    have h := dataByte_asSplit hT hc b
    rw [asSplit_of_split ha] at h
    refine ⟨_, _, exec_wdata_data h0 b, exec_wdata_data (s := s.asEvent) h0 b, ?_⟩
    rw [h, asSplit_asEvent, dataByte_event (s := s.asEvent) b hc rfl]
    rfl
  · have h := setAmbient_asSplit hA v
    rw [asSplit_of_split ha] at h
    rw [h, asSplit_asEvent, setAmbient_event v rfl]
    rfl

/-! ### Runs -/

section
variable {M : Host.Core} {s t u : M.State}

theorem run_succ (h : M.step s = .next u) (k : Nat) : M.run (k + 1) s = M.run k u := by
  rw [Host.Core.run, h]

theorem step_of_run {k : Nat} (h : M.run (k + 1) s = .next t) : ∃ u, M.step s = .next u ∧ M.run k u = .next t := by
  cases hs : M.step s with
  | next u => exact ⟨u, rfl, (run_succ hs k).symm.trans h⟩
  | fault r => rw [Host.Core.run, hs] at h; cases h
  | refused r => rw [Host.Core.run, hs] at h; cases h

theorem run_add {n : Nat} (h : M.run n s = .next u) (k : Nat) : M.run (n + k) s = M.run k u := by
  induction n generalizing s with
  | zero => cases h; rw [Nat.zero_add]
  | succ n ih =>
    obtain ⟨v, hv, hr⟩ := step_of_run h
    rw [Nat.add_right_comm, run_succ hv, ih hr]

end

theorem resumeTransport_endTurn (s : State) : s.endTurn.resumeTransport = s.resumeTransport.endTurn := by
  simp only [State.resumeTransport, State.endTurn]
  split <;> rfl

theorem resumeAmbient_endTurn (s : State) : s.endTurn.resumeAmbient = s.resumeAmbient.endTurn := by
  simp only [State.resumeAmbient, State.endTurn]
  split <;> rfl

/-- `T` finishes a divided operation in its next two turns. -/
theorem run_two_transport {s : State} {rest : List Agent} (hd : s.params.commands.Distinct)
    (hs : s.schedule = .transport :: .transport :: rest) (h1 : s.tLocal ≠ .idle)
    (h2 : s.resumeTransport.tLocal ≠ .idle) :
    Host.Core.run Sys2Proof.core 2 s = .next s.resumeTransport.resumeTransport.endTurn.endTurn := by
  have step1 : step s = .next s.resumeTransport.endTurn :=
    resumeTransport_endTurn s ▸ step_of_resumeTransport hd
      ((activity_transport hs).trans (transportActivity_divided h1))
  have step2 : step s.resumeTransport.endTurn = .next s.resumeTransport.resumeTransport.endTurn.endTurn := by
    have hs' : s.resumeTransport.endTurn.schedule = .transport :: rest := by
      rw [endTurn_schedule, resumeTransport_eq, hs]; rfl
    rw [step_of_resumeTransport (by simpa using hd)
      ((activity_transport hs').trans (transportActivity_divided h2)), resumeTransport_endTurn, resumeTransport_endTurn]
  rw [run_succ (M := Sys2Proof.core) step1, run_succ (M := Sys2Proof.core) step2]
  rfl

/-- `A` finishes a divided operation in its next two turns. -/
theorem run_two_ambient {s : State} {rest : List Agent} (hd : s.params.commands.Distinct)
    (hs : s.schedule = .ambient :: .ambient :: rest) (h1 : s.aLocal ≠ .idle) (h2 : s.resumeAmbient.aLocal ≠ .idle) :
    Host.Core.run Sys2Proof.core 2 s = .next s.resumeAmbient.resumeAmbient.endTurn.endTurn := by
  have step1 : step s = .next s.resumeAmbient.endTurn :=
    resumeAmbient_endTurn s ▸ step_of_resumeAmbient hd
      ((activity_ambient hs).trans (ambientActivity_divided h1))
  have step2 : step s.resumeAmbient.endTurn = .next s.resumeAmbient.resumeAmbient.endTurn.endTurn := by
    have hs' : s.resumeAmbient.endTurn.schedule = .ambient :: rest := by
      rw [endTurn_schedule, resumeAmbient_eq, hs]; rfl
    rw [step_of_resumeAmbient (by simpa using hd)
      ((activity_ambient hs').trans (ambientActivity_divided h2)), resumeAmbient_endTurn, resumeAmbient_endTurn]
  rw [run_succ (M := Sys2Proof.core) step1, run_succ (M := Sys2Proof.core) step2]
  rfl

/-! ### A row under `EVENT` and under `SPLIT` -/

/-- The machine under `EVENT` with both agents between operations. -/
def State.BetweenEvents (s : State) : Prop :=
  s.params.atomicity = .event ∧ s.tLocal = .idle ∧ s.aLocal = .idle

/-- The same machine under `SPLIT`, with another schedule. -/
def State.underSplit (sched : List Agent) (s : State) : State := (s.withPorts sched id).asSplit

/-- Under `SPLIT` a row does what it does under `EVENT`, or leaves its agent two sub-steps that bring it there. -/
theorem Action.underSplit {i : Instr} {g : State → State} (hg : Action i g) {s : State} (hs : s.BetweenEvents) :
    (∀ x, g (s.underSplit x) = (g s).underSplit x) ∨
      (i.agent = .transport ∧ ∀ x, (g (s.underSplit x)).tLocal ≠ .idle ∧
        (g (s.underSplit x)).resumeTransport.tLocal ≠ .idle ∧
        (g (s.underSplit x)).resumeTransport.resumeTransport = (g s).underSplit x) ∨
      (i.agent = .ambient ∧ ∀ x, (g (s.underSplit x)).aLocal ≠ .idle ∧
        (g (s.underSplit x)).resumeAmbient.aLocal ≠ .idle ∧
        (g (s.underSplit x)).resumeAmbient.resumeAmbient = (g s).underSplit x) := by
  obtain ⟨he, hT, hA⟩ := hs
  have event : ∀ x, (s.withPorts x id).asEvent = s.withPorts x id := fun x => asEvent_of_event he
  have ports : ∀ x, g (s.withPorts x id) = (g s).withPorts x id := fun x => hg.withPorts x (fun _ => rfl) s
  cases hg with
  | start =>
    refine .inr (.inl ⟨rfl, fun x => ?_⟩)
    have hfirst := startConvert_split (s := s.underSplit x) rfl
    refine ⟨by simp [hfirst], by simp [hfirst, State.resumeTransport], ?_⟩
    rw [State.underSplit, startConvert_asSplit (s := s.withPorts x id) hT, event, ports]
    rfl
  | ambient v =>
    refine .inr (.inr ⟨rfl, fun x => ?_⟩)
    have hfirst := setAmbient_split (s := s.underSplit x) v rfl
    refine ⟨by simp [hfirst], by simp [hfirst, State.resumeAmbient], ?_⟩
    rw [State.underSplit, setAmbient_asSplit (s := s.withPorts x id) hA, event, ports]
    rfl
  | dataByte b =>
    cases hc : s.dev.completesThreshold with
    | true =>
      refine .inr (.inl ⟨rfl, fun x => ?_⟩)
      have hfirst := dataByte_split (s := s.underSplit x) b hc rfl
      refine ⟨by simp [hfirst], by simp [hfirst, State.resumeTransport], ?_⟩
      rw [State.underSplit, dataByte_asSplit (s := s.withPorts x id) hT hc, event, ports]
      rfl
    | false =>
      left
      intro x
      rw [dataByte_of_not_completes b hc]
      exact dataByte_of_not_completes (s := s.underSplit x) b hc
  | readByte =>
    left
    intro x
    rcases readByte_cases s with ⟨hp, h⟩ | ⟨hp, h⟩ <;> rw [h]
    · exact if_pos hp
    · exact if_neg hp
  | _ => exact .inl fun x => rfl

/-! ### A step and a run under `EVENT` -/

/-- The next move is that of the agent at the head of the schedule, whatever follows it and whatever the atomicity. -/
theorem activity_underSplit {s : State} {a : Agent} {l : List Agent} (hs : s.schedule = a :: l) (x : List Agent) :
    (s.underSplit (a :: x)).activity = s.activity := by
  cases a <;> simp only [State.activity, hs] <;> rfl

theorem step_keeps_betweenEvents {s t : State} (hs : s.BetweenEvents) (h : step s = .next t) : t.BetweenEvents := by
  obtain ⟨he, hT, hA⟩ := hs
  have hp := stepKeepsParameters s t h
  suffices hu : t.tLocal = .idle ∧ t.aLocal = .idle from ⟨hp ▸ he, hu⟩
  rcases step_moves h with ⟨-, rfl⟩ | ⟨o, -, rfl⟩ | ⟨-, rfl⟩ | ⟨-, rfl⟩ | ⟨o, g, -, hg, rfl⟩
  · exact ⟨hT, hA⟩
  · obtain ⟨b, hl⟩ := lifecycle_cases o s.endTurn.dequeueLifecycle
    rw [hl]
    exact ⟨rfl, rfl⟩
  · rw [resumeTransport_idle (s := s.endTurn) hT]
    exact ⟨hT, hA⟩
  · rw [resumeAmbient_idle (s := s.endTurn) hA]
    exact ⟨hT, hA⟩
  · exact hg.keeps_eventUndivided (s := s.endTurn.dequeue o) (fun _ => by simp [hT, hA])
      (by rw [(hg.sameOutside _).1]; simpa using he)

/-- An operation issued under `EVENT` is issued in the same way under `SPLIT`, and where it is divided there, the agent
has the next two turns as well. -/
theorem step_underSplit_issue {s t : State} {o : Operation} (hs : s.BetweenEvents) (hd : s.params.commands.Distinct)
    (hatt : s.attached = true) (ho : s.activity = .issue o)
    (h : exec (s.decode o) (s.endTurn.dequeue o) = .next t) (rest : List Agent) :
    ∃ (n : Nat) (sched : List Agent),
      Host.Core.run Sys2Proof.core n (s.underSplit sched) = .next (t.underSplit rest) := by
  obtain ⟨⟨l, hsched⟩, -⟩ := activity_issue ho
  obtain ⟨g, hg, he⟩ := exec_action (s.decode o) (s.endTurn.dequeue o)
  obtain rfl : t = g (s.endTurn.dequeue o) := Host.Outcome.next.inj (h.symm.trans (he _ rfl))
  have hissue : ∀ x, step (s.underSplit (o.agent :: x)) = .next (g ((s.endTurn.dequeue o).underSplit x)) := by
    intro x
    have hdeq : (s.underSplit (o.agent :: x)).endTurn.dequeue o = (s.endTurn.dequeue o).underSplit x := by
      cases o <;> rfl
    rw [step_of_issue (s := s.underSplit (o.agent :: x)) hd hatt ((activity_underSplit hsched x).trans ho), hdeq]
    exact he _ (row_congr rfl rfl _)
  have hagent : ((s.endTurn.dequeue o).row (s.decode o)).agent = o.agent := by rw [row_agent, decode_agent]
  have hbetween : (s.endTurn.dequeue o).BetweenEvents := by simpa [State.BetweenEvents] using hs
  rcases hg.underSplit hbetween with hone | ⟨ha, hthree⟩ | ⟨ha, hthree⟩
  · exact ⟨1, o.agent :: rest, (run_succ (M := Sys2Proof.core) (hissue rest) 0).trans (by rw [hone]; rfl)⟩
  · obtain ⟨h1, h2, h3⟩ := hthree (.transport :: .transport :: rest)
    obtain ⟨hp, -, -, -, -, -, hq⟩ :=
      hg.sameOutside ((s.endTurn.dequeue o).underSplit (.transport :: .transport :: rest))
    refine ⟨3, o.agent :: .transport :: .transport :: rest, (run_succ (M := Sys2Proof.core) (hissue _) 2).trans ?_⟩
    rw [run_two_transport (by rw [hp]; simpa [State.underSplit, State.withPorts] using hd) hq h1 h2, h3]
    rfl
  · obtain ⟨h1, h2, h3⟩ := hthree (.ambient :: .ambient :: rest)
    obtain ⟨hp, -, -, -, -, -, hq⟩ :=
      hg.sameOutside ((s.endTurn.dequeue o).underSplit (.ambient :: .ambient :: rest))
    refine ⟨3, o.agent :: .ambient :: .ambient :: rest, (run_succ (M := Sys2Proof.core) (hissue _) 2).trans ?_⟩
    rw [run_two_ambient (by rw [hp]; simpa [State.underSplit, State.withPorts] using hd) hq h1 h2, h3]
    rfl

/-- One step under `EVENT` is a run under `SPLIT`, whatever the schedule after it is. -/
theorem step_underSplit {s t : State} (hs : s.BetweenEvents) (h : step s = .next t) (rest : List Agent) :
    ∃ (n : Nat) (sched : List Agent),
      Host.Core.run Sys2Proof.core n (s.underSplit sched) = .next (t.underSplit rest) := by
  obtain ⟨hd, hmoves⟩ := step_cases h
  cases hsched : s.schedule with
  | nil =>
    obtain rfl := Host.Outcome.next.inj (h.symm.trans (step_of_wait hd (activity_nil hsched)))
    exact ⟨0, rest, rfl⟩
  | cons a l =>
    have hact := activity_underSplit hsched rest
    have one : ∀ {u}, step (s.underSplit (a :: rest)) = .next u → u = t.underSplit rest →
        ∃ (n : Nat) (sched : List Agent),
          Host.Core.run Sys2Proof.core n (s.underSplit sched) = .next (t.underSplit rest) := by
      rintro u hu rfl
      exact ⟨1, a :: rest, run_succ (M := Sys2Proof.core) hu 0⟩
    rcases hmoves with ⟨hm, rfl⟩ | ⟨o, hm, rfl⟩ | ⟨hm, rfl⟩ | ⟨hm, rfl⟩ | ⟨o, hm, hatt, hx⟩
    · exact one (step_of_wait hd (hact.trans hm)) rfl
    · exact one (step_of_lifecycle hd (hact.trans hm)) (by cases o <;> rfl)
    · exact absurd hs.2.1 (activity_resumeTransport hm)
    · exact absurd hs.2.2 (activity_resumeAmbient hm)
    · exact step_underSplit_issue hs hd hatt hm hx rest

/-- Settles O56, by induction on the number of steps: the schedule found for the rest of the run is what follows the
first step's turns. -/
theorem eventRunsAreSplitRuns : Obligations.EventRunsAreSplitRuns := by
  intro k
  induction k with
  | zero =>
    rintro s t - - - h
    cases h
    exact ⟨0, s.schedule, rfl⟩
  | succ k ih =>
    intro s t he hT hA h
    obtain ⟨u, hu, hr⟩ := step_of_run h
    obtain ⟨heu, hTu, hAu⟩ := step_keeps_betweenEvents ⟨he, hT, hA⟩ hu
    obtain ⟨n', sched', h'⟩ := ih u t heu hTu hAu hr
    obtain ⟨n, sched, hn⟩ := step_underSplit ⟨he, hT, hA⟩ hu sched'
    exact ⟨n + n', sched, (run_add hn n').trans h'⟩

end Sys2Proof.Machine
end

section
/-! The two hazards of `SPLIT` (70_reset_and_hazards.md R227, R228): an ambient update that runs whole between the
sub-steps of a Start Convert or of a threshold write, after which the sub-step to come uses the value it took before. -/

namespace Sys2Proof.Machine

/-! ### The moves of the two interleavings -/

section
variable {s : State} {rest : List Agent} (hd : s.params.commands.Distinct)
include hd

theorem step_transport_issue {o : TransportOp} {q : List TransportOp} (hatt : s.attached = true)
    (hs : s.schedule = .transport :: rest) (hT : s.tLocal = .idle) (hq : s.tQueue = o :: q) :
    step s = exec (s.decode (.transport o)) { s with schedule := rest, tQueue := q } := by
  obtain ⟨ho, hdeq⟩ := ((scheduledAgentMovesNext s rest).2.1 hs).2.2 o q hT hq
  rw [step_of_issue hd hatt ho, hdeq]

theorem step_transport_resume (hs : s.schedule = .transport :: rest) (hT : s.tLocal ≠ .idle) :
    step s = .next ({ s with schedule := rest } : State).resumeTransport := by
  rw [step_of_resumeTransport hd ((activity_transport hs).trans (transportActivity_divided hT)), State.endTurn, hs]
  rfl

/-- SC.2 and SC.3 in a row. -/
theorem run_start_resumes {m : I32} (hs : s.schedule = .transport :: .transport :: rest)
    (h : s.tLocal = .startSampled m) :
    Host.Core.run Sys2Proof.core 2 s = .next { s with
      schedule := rest, dev := (reEval m s.dev).enterContinuous, tLocal := .idle } := by
  rw [run_two_transport hd hs (by simp [h]) (by simp [resumeTransport_startSampled h]), resumeTransport_twice_start h,
    State.endTurn, State.endTurn, hs]
  rfl

/-- TW.3 with a value taken. -/
theorem run_threshold_resume {m : I32} (hs : s.schedule = .transport :: rest)
    (h : s.tLocal = .thresholdSampled (some m)) :
    Host.Core.run Sys2Proof.core 1 s = .next { s with schedule := rest, dev := reEval m s.dev, tLocal := .idle } := by
  have hstep := (step_transport_resume hd hs (by simp [h])).trans
    (congrArg _ (resumeTransport_thresholdSampled_some (s := { s with schedule := rest }) h))
  exact run_succ (M := Sys2Proof.core) hstep 0

/-- Under `SPLIT`, three turns of `A` in a row are a whole ambient update. -/
theorem run_ambient_update {v : I32} {q : List I32} (hatt : s.attached = true) (ha : s.params.atomicity = .split)
    (hs : s.schedule = .ambient :: .ambient :: .ambient :: rest) (hA : s.aLocal = .idle) (hq : s.aQueue = v :: q) :
    Host.Core.run Sys2Proof.core 3 s = .next { s with
      schedule := rest, aQueue := q,
      dev := if s.dev.convertingContinuously then reEval v { s.dev with storedTemperature := v }
        else { s.dev with storedTemperature := v } } := by
  obtain ⟨ho, hdeq⟩ := ((scheduledAgentMovesNext s _).2.2.1 hs).2.2 v q hA hq
  have hissue : step s = .next { s with
      schedule := .ambient :: .ambient :: rest, aQueue := q, dev := { s.dev with storedTemperature := v },
      aLocal := .stored v } := by
    rw [step_of_issue hd hatt ho, hdeq]
    exact ambientUpdateSubSteps.1 _ v ha
  refine (run_succ (M := Sys2Proof.core) hissue 2).trans
    ((run_two_ambient (by exact hd) rfl (by simp) (by simp [State.resumeAmbient])).trans ?_)
  rw [resumeAmbient_twice rfl, ← hA]
  rfl

end

/-! ### The obligations -/

/-- The machine between two moves of `T`: what is left of the schedule and of `T`'s queue, the block, and what `T`
holds. -/
def State.midway (sched : List Agent) (q : List TransportOp) (d : DeviceState) (l : TransportLocal) (s : State) : State :=
  { s with schedule := sched, tQueue := q, dev := d, tLocal := l }

/-- Settles O57: SC.2 re-evaluates with the value SC.1 took, over the one the update stored; the update found the block not
converting, so it measured nothing. -/
theorem ambientUpdateLostByRacingStart : Obligations.AmbientUpdateLostByRacingStart := by
  intro s v tq aq sched hd hatt ha hT hA hp hc h1 htq haq hs
  have hdec : s.decode (.transport (.byteWritten s.params.commands.startConvert)) = .start := by
    rw [State.decode, hp]
    exact (decodeWritten_zero _ _).trans (decodeCommand_of_mem_rows hd (by simp [CommandBytes.rows]))
  have hstart : step s = .next (s.midway (.ambient :: .ambient :: .ambient :: .transport :: .transport :: sched) tq s.dev
      (.startSampled s.dev.storedTemperature)) := by
    rw [step_transport_issue hd hatt hs hT htq, hdec]
    exact startConvertSubSteps.1 _ ha
  have hamb := run_ambient_update (rest := .transport :: .transport :: sched)
    (s := s.midway _ tq s.dev (.startSampled s.dev.storedTemperature)) hd hatt ha rfl hA haq
  refine ⟨_, (run_succ (M := Sys2Proof.core) hstart 5).trans ((run_add hamb 2).trans
    (run_start_resumes (by exact hd) rfl rfl)), ?_, ?_, ?_, rfl, hA⟩
  · simp [State.midway, hc]
  · simp
  · rw [enterContinuous_of_not_oneShot (by simpa [State.midway, hc] using h1)]

/-- Settles O58: TW.3 re-evaluates with the measured value TW.2 took, over the one the update measured. -/
theorem thresholdWriteRestoresStaleMeasured : Obligations.ThresholdWriteRestoresStaleMeasured := by
  intro s b v tq aq sched hd hatt ha hT hA hp ht hc htq haq hs
  have hdec : s.decode (.transport (.byteWritten b)) = .wdata b := by
    rw [State.decode, hp]
    exact decodeWritten_of_ne (by decide) _ b
  have hcomp := (completesThreshold_iff s.dev).2 ⟨hp, .inl ht⟩
  have hwrite : step s = .next (s.midway (.transport :: .ambient :: .ambient :: .ambient :: .transport :: sched) tq
      (s.dev.writeByte b) (.thresholdStored true)) := by
    rw [step_transport_issue hd hatt hs hT htq, hdec, ← hc]
    exact (exec_wdata_data (by simp [hp]) b).trans (congrArg _ (dataByte_split b hcomp ha))
  have hsample : step (s.midway (.transport :: .ambient :: .ambient :: .ambient :: .transport :: sched) tq
      (s.dev.writeByte b) (.thresholdStored true)) =
      .next (s.midway (.ambient :: .ambient :: .ambient :: .transport :: sched) tq (s.dev.writeByte b)
        (.thresholdSampled (some s.dev.measuredTemperature))) := by
    rw [step_transport_resume (by exact hd) rfl (by simp [State.midway]), resumeTransport_thresholdStored rfl]
    simp [State.midway]
  have hamb := run_ambient_update (rest := .transport :: sched) (s := s.midway _ tq (s.dev.writeByte b)
    (.thresholdSampled (some s.dev.measuredTemperature))) hd hatt ha rfl hA haq
  refine ⟨_, (run_succ (M := Sys2Proof.core) hwrite 5).trans ((run_succ (M := Sys2Proof.core) hsample 4).trans
    ((run_add hamb 1).trans (run_threshold_resume (by exact hd) rfl rfl))), rfl, hA, ?_, ?_, ?_⟩
  · simp [State.midway, hc]
  · simp
  · simp only [State.midway, writeByte_th hp b ht, hc, if_pos]
    rfl

end Sys2Proof.Machine
end
